-- ==== Sys2Proof/Word.lean ====
section
/-! DEFINITION. Words of the hardware: bytes, port words, 16-byte blocks (rules R11, R12, R13). -/

namespace Sys2Proof

/-- A byte is 8 bits, bit 0 the least significant (rule R12). -/
abbrev Byte := BitVec 8

/-- The port moves 32-bit words (rules R80, R90). -/
abbrev Word := BitVec 32

/-- Sixteen bytes in index order: the key, a keying block, a cipher output (rule R11). -/
abbrev Block := Vector Byte 16

end Sys2Proof
end

