-- ==== Sys2Proof/Syntax.lean ====
section
/-! DEFINITION. The instructions: one constructor per row of spec/opcode_table.json. LKE runs no
instruction stream (rule R33); what a host executes on it are port transactions, and one of those, a write
to `CMD`, carries a command word (rules R120 to R127). -/

namespace Sys2Proof

/-- A transaction (`BUS48` rows, rules R121, R122) or a command (`CMD32` rows, rules R123, R125), which is the
data of a write to `CMD`. An operand `k` or `o` is the low part of the word index that the row leaves open;
`d` and `c` are `wdata`. A read has no `wdata`: it must be 0 there and is ignored (rule R121). -/
inductive Instr where
  /-- Read of `ID`, word index 0x0000 (rule R151). -/
  | rdId
  /-- Read of `CMD`, word index 0x0001 (rule R152). -/
  | rdCmd
  /-- Read of `STATUS`, word index 0x0002 (rule R153). -/
  | rdStatus
  /-- Read of `INTEN`, word index 0x0003 (rule R154). -/
  | rdInten
  /-- Read of `KEY_PUSH`, word index 0x0004 (rule R152). -/
  | rdKeyPush
  /-- Read of `KEY_CNT`, word index 0x0005 (rule R155). -/
  | rdKeyCnt
  /-- Read of `ADDR_PUSH`, word index 0x0006 (rule R152). -/
  | rdAddrPush
  /-- Read of `ADDR_CNT`, word index 0x0007 (rule R160). -/
  | rdAddrCnt
  /-- Read of `FCNT`, word index 0x0008 (rule R161). -/
  | rdFcnt
  /-- Read of `DIR`, word index 0x0009 (rule R164). -/
  | rdDir
  /-- Read of `PLEN`, word index 0x000A (rule R166). -/
  | rdPlen
  /-- Read of `RLEN`, word index 0x000B (rule R168). -/
  | rdRlen
  /-- Read of `BUFSZ`, word index 0x000C (rule R169). -/
  | rdBufsz
  /-- Read of the reserved word 0x000D (rule R173). -/
  | rdRsv000D
  /-- Read of the reserved word 0x000E + `o`, up to 0x000F, (rule R173). -/
  | rdRsv000E (o : BitVec 1)
  /-- Read of the reserved word 0x0010 + `o`, up to 0x001F, (rule R173). -/
  | rdRsv0010 (o : BitVec 4)
  /-- Read of the reserved word 0x0020 + `o`, up to 0x003F, (rule R173). -/
  | rdRsv0020 (o : BitVec 5)
  /-- Read of the reserved word 0x0040 + `o`, up to 0x007F, (rule R173). -/
  | rdRsv0040 (o : BitVec 6)
  /-- Read of the reserved word 0x0080 + `o`, up to 0x00FF, (rule R173). -/
  | rdRsv0080 (o : BitVec 7)
  /-- Read of the reserved word 0x0100 + `o`, up to 0x01FF, (rule R173). -/
  | rdRsv0100 (o : BitVec 8)
  /-- Read of the reserved word 0x0200 + `o`, up to 0x03FF, (rule R173). -/
  | rdRsv0200 (o : BitVec 9)
  /-- Read of the reserved word 0x0400 + `o`, up to 0x07FF, (rule R173). -/
  | rdRsv0400 (o : BitVec 10)
  /-- Read of the reserved word 0x0800 + `o`, up to 0x0FFF, (rule R173). -/
  | rdRsv0800 (o : BitVec 11)
  /-- Read of the reserved word 0x1000 + `o`, up to 0x1FFF, (rule R173). -/
  | rdRsv1000 (o : BitVec 12)
  /-- Read of buffer word `k` of the IN window (rule R170). -/
  | rdIn (k : BitVec 13)
  /-- Read of buffer word `k` of the OUT window (rule R163). -/
  | rdOut (k : BitVec 13)
  /-- Read of the reserved word 0x6000 + `o`, up to 0x7FFF, (rule R173). -/
  | rdRsv6000 (o : BitVec 13)
  /-- Write of `ID`, word index 0x0000 (rule R172). -/
  | wrId (d : Word)
  /-- Write of `CMD`, word index 0x0001 (rule R174). -/
  | wrCmd (c : Word)
  /-- Write of `STATUS`, word index 0x0002 (rule R156). -/
  | wrStatus (d : Word)
  /-- Write of `INTEN`, word index 0x0003 (rule R157). -/
  | wrInten (d : Word)
  /-- Write of `KEY_PUSH`, word index 0x0004 (rule R158). -/
  | wrKeyPush (d : Word)
  /-- Write of `KEY_CNT`, word index 0x0005 (rule R172). -/
  | wrKeyCnt (d : Word)
  /-- Write of `ADDR_PUSH`, word index 0x0006 (rule R159). -/
  | wrAddrPush (d : Word)
  /-- Write of `ADDR_CNT`, word index 0x0007 (rule R172). -/
  | wrAddrCnt (d : Word)
  /-- Write of `FCNT`, word index 0x0008 (rule R162). -/
  | wrFcnt (d : Word)
  /-- Write of `DIR`, word index 0x0009 (rule R165). -/
  | wrDir (d : Word)
  /-- Write of `PLEN`, word index 0x000A (rule R167). -/
  | wrPlen (d : Word)
  /-- Write of `RLEN`, word index 0x000B (rule R172). -/
  | wrRlen (d : Word)
  /-- Write of `BUFSZ`, word index 0x000C (rule R172). -/
  | wrBufsz (d : Word)
  /-- Write of the reserved word 0x000D (rule R172). -/
  | wrRsv000D (d : Word)
  /-- Write of the reserved word 0x000E + `o`, up to 0x000F, (rule R172). -/
  | wrRsv000E (o : BitVec 1) (d : Word)
  /-- Write of the reserved word 0x0010 + `o`, up to 0x001F, (rule R172). -/
  | wrRsv0010 (o : BitVec 4) (d : Word)
  /-- Write of the reserved word 0x0020 + `o`, up to 0x003F, (rule R172). -/
  | wrRsv0020 (o : BitVec 5) (d : Word)
  /-- Write of the reserved word 0x0040 + `o`, up to 0x007F, (rule R172). -/
  | wrRsv0040 (o : BitVec 6) (d : Word)
  /-- Write of the reserved word 0x0080 + `o`, up to 0x00FF, (rule R172). -/
  | wrRsv0080 (o : BitVec 7) (d : Word)
  /-- Write of the reserved word 0x0100 + `o`, up to 0x01FF, (rule R172). -/
  | wrRsv0100 (o : BitVec 8) (d : Word)
  /-- Write of the reserved word 0x0200 + `o`, up to 0x03FF, (rule R172). -/
  | wrRsv0200 (o : BitVec 9) (d : Word)
  /-- Write of the reserved word 0x0400 + `o`, up to 0x07FF, (rule R172). -/
  | wrRsv0400 (o : BitVec 10) (d : Word)
  /-- Write of the reserved word 0x0800 + `o`, up to 0x0FFF, (rule R172). -/
  | wrRsv0800 (o : BitVec 11) (d : Word)
  /-- Write of the reserved word 0x1000 + `o`, up to 0x1FFF, (rule R172). -/
  | wrRsv1000 (o : BitVec 12) (d : Word)
  /-- Write of buffer word `k` of the IN window (rule R171). -/
  | wrIn (k : BitVec 13) (d : Word)
  /-- Write of buffer word `k` of the OUT window (rule R172). -/
  | wrOut (k : BitVec 13) (d : Word)
  /-- Write of the reserved word 0x6000 + `o`, up to 0x7FFF, (rule R172). -/
  | wrRsv6000 (o : BitVec 13) (d : Word)
  /-- Command word `0x00000000` (rule R270). -/
  | nop
  /-- Command word `0x00000001` (rule R264). -/
  | crypt
  /-- Command word `0x00000002` (rule R265). -/
  | ecb
  /-- Command word `0x00000003` (rule R266). -/
  | ksgen
  /-- Command word `0x00000004` (rule R267). -/
  | clrkey
  /-- Command word `0x00000005` (rule R268). -/
  | clraddr
  /-- Command word `0x0000000F` (rule R269). -/
  | srst
  /-- Any command word that rule R125 does not list (rule R271). -/
  | illegal (c : Word)
  deriving DecidableEq, Repr

/-- The transaction is a read, `we = 0` (rules R80, R150). -/
def Instr.isRead : Instr → Bool
  | .rdId | .rdCmd | .rdStatus | .rdInten | .rdKeyPush | .rdKeyCnt | .rdAddrPush | .rdAddrCnt | .rdFcnt
  | .rdDir | .rdPlen | .rdRlen | .rdBufsz | .rdRsv000D | .rdRsv000E _ | .rdRsv0010 _ | .rdRsv0020 _
  | .rdRsv0040 _ | .rdRsv0080 _ | .rdRsv0100 _ | .rdRsv0200 _ | .rdRsv0400 _ | .rdRsv0800 _ | .rdRsv1000 _
  | .rdIn _ | .rdOut _ | .rdRsv6000 _ => true
  | .wrId _ | .wrCmd _ | .wrStatus _ | .wrInten _ | .wrKeyPush _ | .wrKeyCnt _ | .wrAddrPush _ | .wrAddrCnt _
  | .wrFcnt _ | .wrDir _ | .wrPlen _ | .wrRlen _ | .wrBufsz _ | .wrRsv000D _ | .wrRsv000E _ _
  | .wrRsv0010 _ _ | .wrRsv0020 _ _ | .wrRsv0040 _ _ | .wrRsv0080 _ _ | .wrRsv0100 _ _ | .wrRsv0200 _ _
  | .wrRsv0400 _ _ | .wrRsv0800 _ _ | .wrRsv1000 _ _ | .wrIn _ _ | .wrOut _ _ | .wrRsv6000 _ _ => false
  | .nop | .crypt | .ecb | .ksgen | .clrkey | .clraddr | .srst | .illegal _ => false

/-- The step writes the `SRST` word to `CMD`, the one write that takes effect while busy (rules R150, R340). -/
def Instr.isSoftReset : Instr → Bool
  | .srst => true
  | .wrCmd c => c == 0x0000000F#32
  | .rdId | .rdCmd | .rdStatus | .rdInten | .rdKeyPush | .rdKeyCnt | .rdAddrPush | .rdAddrCnt | .rdFcnt
  | .rdDir | .rdPlen | .rdRlen | .rdBufsz | .rdRsv000D | .rdRsv000E _ | .rdRsv0010 _ | .rdRsv0020 _
  | .rdRsv0040 _ | .rdRsv0080 _ | .rdRsv0100 _ | .rdRsv0200 _ | .rdRsv0400 _ | .rdRsv0800 _ | .rdRsv1000 _
  | .rdIn _ | .rdOut _ | .rdRsv6000 _ => false
  | .wrId _ | .wrStatus _ | .wrInten _ | .wrKeyPush _ | .wrKeyCnt _ | .wrAddrPush _ | .wrAddrCnt _
  | .wrFcnt _ | .wrDir _ | .wrPlen _ | .wrRlen _ | .wrBufsz _ | .wrRsv000D _ | .wrRsv000E _ _
  | .wrRsv0010 _ _ | .wrRsv0020 _ _ | .wrRsv0040 _ _ | .wrRsv0080 _ _ | .wrRsv0100 _ _ | .wrRsv0200 _ _
  | .wrRsv0400 _ _ | .wrRsv0800 _ _ | .wrRsv1000 _ _ | .wrIn _ _ | .wrOut _ _ | .wrRsv6000 _ _ => false
  | .nop | .crypt | .ecb | .ksgen | .clrkey | .clraddr | .illegal _ => false

/-- What the port's input carries: a whole transaction, or a command word on its way to `CMD` (rule R120).
Both formats have a fixed length and there is no other. -/
inductive Encoded where
  /-- `(we, widx, wdata)` in bits [47], [46:32], [31:0] (rule R121). -/
  | bus (w : BitVec 48)
  /-- A command word, `OP` in [7:0] and `RSV` in [31:8] (rule R123): the write of it to `CMD`. -/
  | cmd (c : Word)
  deriving DecidableEq, Repr

end Sys2Proof
end

