-- ==== Sys2Proof/WellFormed.lean ====
section
/-! DEFINITION. Which terms of `Instr` are instructions. The operand widths bound every other field. -/

namespace Sys2Proof

/-- The seven words of rule R125, the only legal command words (rule R123). -/
def legalCommandWords : List Word :=
  [0x00000000#32, 0x00000001#32, 0x00000002#32, 0x00000003#32, 0x00000004#32, 0x00000005#32, 0x0000000F#32]

/-- `illegal` stands only for a word that rule R125 does not list (rules R126, R271); every other term is an
instruction whatever its operands. -/
def Instr.wellFormed : Instr → Bool
  | .illegal c => !legalCommandWords.contains c
  | .rdId | .rdCmd | .rdStatus | .rdInten | .rdKeyPush | .rdKeyCnt | .rdAddrPush | .rdAddrCnt | .rdFcnt
  | .rdDir | .rdPlen | .rdRlen | .rdBufsz | .rdRsv000D | .rdRsv000E _ | .rdRsv0010 _ | .rdRsv0020 _
  | .rdRsv0040 _ | .rdRsv0080 _ | .rdRsv0100 _ | .rdRsv0200 _ | .rdRsv0400 _ | .rdRsv0800 _ | .rdRsv1000 _
  | .rdIn _ | .rdOut _ | .rdRsv6000 _ => true
  | .wrId _ | .wrCmd _ | .wrStatus _ | .wrInten _ | .wrKeyPush _ | .wrKeyCnt _ | .wrAddrPush _ | .wrAddrCnt _
  | .wrFcnt _ | .wrDir _ | .wrPlen _ | .wrRlen _ | .wrBufsz _ | .wrRsv000D _ | .wrRsv000E _ _
  | .wrRsv0010 _ _ | .wrRsv0020 _ _ | .wrRsv0040 _ _ | .wrRsv0080 _ _ | .wrRsv0100 _ _ | .wrRsv0200 _ _
  | .wrRsv0400 _ _ | .wrRsv0800 _ _ | .wrRsv1000 _ _ | .wrIn _ _ | .wrOut _ _ | .wrRsv6000 _ _ => true
  | .nop | .crypt | .ecb | .ksgen | .clrkey | .clraddr | .srst => true

end Sys2Proof
end

