-- ==== Sys2Proof/Decode.lean ====
section
/-! DEFINITION. The decoder of the two formats of rule R120, the encoder, and the opcode table's rows. -/

namespace Sys2Proof

/-! ## Decoding -/

/-- A read: `widx` alone picks the word, by the address map of rule R82 (rule R122). -/
def decodeRead (widx : BitVec 15) : Instr :=
  let n := widx.toNat
  if n = 0x0000 then .rdId
  else if n = 0x0001 then .rdCmd
  else if n = 0x0002 then .rdStatus
  else if n = 0x0003 then .rdInten
  else if n = 0x0004 then .rdKeyPush
  else if n = 0x0005 then .rdKeyCnt
  else if n = 0x0006 then .rdAddrPush
  else if n = 0x0007 then .rdAddrCnt
  else if n = 0x0008 then .rdFcnt
  else if n = 0x0009 then .rdDir
  else if n = 0x000A then .rdPlen
  else if n = 0x000B then .rdRlen
  else if n = 0x000C then .rdBufsz
  else if n = 0x000D then .rdRsv000D
  else if n < 0x0010 then .rdRsv000E (widx.setWidth 1)
  else if n < 0x0020 then .rdRsv0010 (widx.setWidth 4)
  else if n < 0x0040 then .rdRsv0020 (widx.setWidth 5)
  else if n < 0x0080 then .rdRsv0040 (widx.setWidth 6)
  else if n < 0x0100 then .rdRsv0080 (widx.setWidth 7)
  else if n < 0x0200 then .rdRsv0100 (widx.setWidth 8)
  else if n < 0x0400 then .rdRsv0200 (widx.setWidth 9)
  else if n < 0x0800 then .rdRsv0400 (widx.setWidth 10)
  else if n < 0x1000 then .rdRsv0800 (widx.setWidth 11)
  else if n < 0x2000 then .rdRsv1000 (widx.setWidth 12)
  else if n < 0x4000 then .rdIn (widx.setWidth 13)
  else if n < 0x6000 then .rdOut (widx.setWidth 13)
  else .rdRsv6000 (widx.setWidth 13)

/-- A write: `widx` picks the target by the address map of rule R82, and `wdata` is the operand (rule R122). -/
def decodeWrite (widx : BitVec 15) (wdata : Word) : Instr :=
  let n := widx.toNat
  if n = 0x0000 then .wrId wdata
  else if n = 0x0001 then .wrCmd wdata
  else if n = 0x0002 then .wrStatus wdata
  else if n = 0x0003 then .wrInten wdata
  else if n = 0x0004 then .wrKeyPush wdata
  else if n = 0x0005 then .wrKeyCnt wdata
  else if n = 0x0006 then .wrAddrPush wdata
  else if n = 0x0007 then .wrAddrCnt wdata
  else if n = 0x0008 then .wrFcnt wdata
  else if n = 0x0009 then .wrDir wdata
  else if n = 0x000A then .wrPlen wdata
  else if n = 0x000B then .wrRlen wdata
  else if n = 0x000C then .wrBufsz wdata
  else if n = 0x000D then .wrRsv000D wdata
  else if n < 0x0010 then .wrRsv000E (widx.setWidth 1) wdata
  else if n < 0x0020 then .wrRsv0010 (widx.setWidth 4) wdata
  else if n < 0x0040 then .wrRsv0020 (widx.setWidth 5) wdata
  else if n < 0x0080 then .wrRsv0040 (widx.setWidth 6) wdata
  else if n < 0x0100 then .wrRsv0080 (widx.setWidth 7) wdata
  else if n < 0x0200 then .wrRsv0100 (widx.setWidth 8) wdata
  else if n < 0x0400 then .wrRsv0200 (widx.setWidth 9) wdata
  else if n < 0x0800 then .wrRsv0400 (widx.setWidth 10) wdata
  else if n < 0x1000 then .wrRsv0800 (widx.setWidth 11) wdata
  else if n < 0x2000 then .wrRsv1000 (widx.setWidth 12) wdata
  else if n < 0x4000 then .wrIn (widx.setWidth 13) wdata
  else if n < 0x6000 then .wrOut (widx.setWidth 13) wdata
  else .wrRsv6000 (widx.setWidth 13) wdata

/-- `BUS48` (rules R121, R122): decoding uses bit 47 and bits [46:32]; the `wdata` of a read is ignored. Every
48-bit word is a transaction. -/
def decodeBus48 (w : BitVec 48) : Instr :=
  if w.getLsbD 47 then decodeWrite (w.extractLsb' 32 15) (w.extractLsb' 0 32)
  else decodeRead (w.extractLsb' 32 15)

/-- `CMD32` (rules R123, R125, R126): the whole word must match, `RSV = 0` included; every other word is the
illegal command. -/
def decodeCmd32 (c : Word) : Instr :=
  if c = 0x00000000#32 then .nop
  else if c = 0x00000001#32 then .crypt
  else if c = 0x00000002#32 then .ecb
  else if c = 0x00000003#32 then .ksgen
  else if c = 0x00000004#32 then .clrkey
  else if c = 0x00000005#32 then .clraddr
  else if c = 0x0000000F#32 then .srst
  else .illegal c

/-- The decoder: total, since every word of either format means something (rules R122, R126). -/
def decode : Encoded → Instr
  | .bus w => decodeBus48 w
  | .cmd c => decodeCmd32 c

/-- Why a number is not a word of either format. -/
inductive DecodeError where
  /-- Its length is neither 48 nor 32 bits, and there is no third format and no shorter form (rules R120, R127). -/
  | noSuchFormat
  /-- The number has a bit set beyond the given length. -/
  | wordTooWide
  deriving DecidableEq, Repr

/-- A number of the given length in bits as a word of a format: a transaction is always 48 bits and a command word
always 32, and no other length is a word of either (rules R120, R127). -/
def encodedOfBits (nbits w : Nat) : Except DecodeError Encoded :=
  if nbits = 48 then
    if w < 2 ^ 48 then .ok (.bus (BitVec.ofNat 48 w)) else .error .wordTooWide
  else if nbits = 32 then
    if w < 2 ^ 32 then .ok (.cmd (BitVec.ofNat 32 w)) else .error .wordTooWide
  else .error .noSuchFormat

/-- The decoder on a number of `nbits` bits: a decoded instruction or a named rejection. -/
def decodeBits (nbits w : Nat) : Except DecodeError Instr :=
  match encodedOfBits nbits w with
  | .ok e => .ok (decode e)
  | .error r => .error r

/-- The instruction the decoder reads from an opcode-table row's word. -/
def decodeTableWord (nbits w : Nat) : Option Instr :=
  match decodeBits nbits w with
  | .ok i => some i
  | .error _ => none

/-! ## Encoding -/

/-- The transaction `(we, widx, wdata)` as one 48-bit word (rule R121). -/
def busWord (we : Bool) (widx : BitVec 15) (wdata : Word) : BitVec 48 :=
  BitVec.ofBool we ++ widx ++ wdata

/-- A read transaction: `wdata` must be 0 (rule R121). -/
def busRead (widx : BitVec 15) : BitVec 48 := busWord false widx 0#32

/-- A write transaction. -/
def busWrite (widx : BitVec 15) (wdata : Word) : BitVec 48 := busWord true widx wdata

/-- The encoder, from the address map of rule R82 and the command map of rule R125. A window or reserved word's
index is its range's leading bits followed by the operand. -/
def encode : Instr → Encoded
  | .rdId => .bus (busRead 0x0000#15)
  | .rdCmd => .bus (busRead 0x0001#15)
  | .rdStatus => .bus (busRead 0x0002#15)
  | .rdInten => .bus (busRead 0x0003#15)
  | .rdKeyPush => .bus (busRead 0x0004#15)
  | .rdKeyCnt => .bus (busRead 0x0005#15)
  | .rdAddrPush => .bus (busRead 0x0006#15)
  | .rdAddrCnt => .bus (busRead 0x0007#15)
  | .rdFcnt => .bus (busRead 0x0008#15)
  | .rdDir => .bus (busRead 0x0009#15)
  | .rdPlen => .bus (busRead 0x000A#15)
  | .rdRlen => .bus (busRead 0x000B#15)
  | .rdBufsz => .bus (busRead 0x000C#15)
  | .rdRsv000D => .bus (busRead 0x000D#15)
  | .rdRsv000E o => .bus (busRead (0x7#14 ++ o))
  | .rdRsv0010 o => .bus (busRead (0x1#11 ++ o))
  | .rdRsv0020 o => .bus (busRead (0x1#10 ++ o))
  | .rdRsv0040 o => .bus (busRead (0x1#9 ++ o))
  | .rdRsv0080 o => .bus (busRead (0x1#8 ++ o))
  | .rdRsv0100 o => .bus (busRead (0x1#7 ++ o))
  | .rdRsv0200 o => .bus (busRead (0x1#6 ++ o))
  | .rdRsv0400 o => .bus (busRead (0x1#5 ++ o))
  | .rdRsv0800 o => .bus (busRead (0x1#4 ++ o))
  | .rdRsv1000 o => .bus (busRead (0x1#3 ++ o))
  | .rdIn k => .bus (busRead (0x1#2 ++ k))
  | .rdOut k => .bus (busRead (0x2#2 ++ k))
  | .rdRsv6000 o => .bus (busRead (0x3#2 ++ o))
  | .wrId d => .bus (busWrite 0x0000#15 d)
  | .wrCmd c => .bus (busWrite 0x0001#15 c)
  | .wrStatus d => .bus (busWrite 0x0002#15 d)
  | .wrInten d => .bus (busWrite 0x0003#15 d)
  | .wrKeyPush d => .bus (busWrite 0x0004#15 d)
  | .wrKeyCnt d => .bus (busWrite 0x0005#15 d)
  | .wrAddrPush d => .bus (busWrite 0x0006#15 d)
  | .wrAddrCnt d => .bus (busWrite 0x0007#15 d)
  | .wrFcnt d => .bus (busWrite 0x0008#15 d)
  | .wrDir d => .bus (busWrite 0x0009#15 d)
  | .wrPlen d => .bus (busWrite 0x000A#15 d)
  | .wrRlen d => .bus (busWrite 0x000B#15 d)
  | .wrBufsz d => .bus (busWrite 0x000C#15 d)
  | .wrRsv000D d => .bus (busWrite 0x000D#15 d)
  | .wrRsv000E o d => .bus (busWrite (0x7#14 ++ o) d)
  | .wrRsv0010 o d => .bus (busWrite (0x1#11 ++ o) d)
  | .wrRsv0020 o d => .bus (busWrite (0x1#10 ++ o) d)
  | .wrRsv0040 o d => .bus (busWrite (0x1#9 ++ o) d)
  | .wrRsv0080 o d => .bus (busWrite (0x1#8 ++ o) d)
  | .wrRsv0100 o d => .bus (busWrite (0x1#7 ++ o) d)
  | .wrRsv0200 o d => .bus (busWrite (0x1#6 ++ o) d)
  | .wrRsv0400 o d => .bus (busWrite (0x1#5 ++ o) d)
  | .wrRsv0800 o d => .bus (busWrite (0x1#4 ++ o) d)
  | .wrRsv1000 o d => .bus (busWrite (0x1#3 ++ o) d)
  | .wrIn k d => .bus (busWrite (0x1#2 ++ k) d)
  | .wrOut k d => .bus (busWrite (0x2#2 ++ k) d)
  | .wrRsv6000 o d => .bus (busWrite (0x3#2 ++ o) d)
  | .nop => .cmd 0x00000000#32
  | .crypt => .cmd 0x00000001#32
  | .ecb => .cmd 0x00000002#32
  | .ksgen => .cmd 0x00000003#32
  | .clrkey => .cmd 0x00000004#32
  | .clraddr => .cmd 0x00000005#32
  | .srst => .cmd 0x0000000F#32
  | .illegal c => .cmd c

/-! ## The opcode table -/

/-- The `format` length, `match` and `mask` of a row of spec/opcode_table.json. -/
structure OpcodeRow where
  nbits : Nat
  word : Nat
  mask : Nat
  deriving DecidableEq, Repr

/-- The row each constructor stands for, copied from spec/opcode_table.json. -/
def opcodeRow : Instr → OpcodeRow
  | .rdId => ⟨48, 0x000000000000, 0xFFFF00000000⟩
  | .rdCmd => ⟨48, 0x000100000000, 0xFFFF00000000⟩
  | .rdStatus => ⟨48, 0x000200000000, 0xFFFF00000000⟩
  | .rdInten => ⟨48, 0x000300000000, 0xFFFF00000000⟩
  | .rdKeyPush => ⟨48, 0x000400000000, 0xFFFF00000000⟩
  | .rdKeyCnt => ⟨48, 0x000500000000, 0xFFFF00000000⟩
  | .rdAddrPush => ⟨48, 0x000600000000, 0xFFFF00000000⟩
  | .rdAddrCnt => ⟨48, 0x000700000000, 0xFFFF00000000⟩
  | .rdFcnt => ⟨48, 0x000800000000, 0xFFFF00000000⟩
  | .rdDir => ⟨48, 0x000900000000, 0xFFFF00000000⟩
  | .rdPlen => ⟨48, 0x000A00000000, 0xFFFF00000000⟩
  | .rdRlen => ⟨48, 0x000B00000000, 0xFFFF00000000⟩
  | .rdBufsz => ⟨48, 0x000C00000000, 0xFFFF00000000⟩
  | .rdRsv000D => ⟨48, 0x000D00000000, 0xFFFF00000000⟩
  | .rdRsv000E _ => ⟨48, 0x000E00000000, 0xFFFE00000000⟩
  | .rdRsv0010 _ => ⟨48, 0x001000000000, 0xFFF000000000⟩
  | .rdRsv0020 _ => ⟨48, 0x002000000000, 0xFFE000000000⟩
  | .rdRsv0040 _ => ⟨48, 0x004000000000, 0xFFC000000000⟩
  | .rdRsv0080 _ => ⟨48, 0x008000000000, 0xFF8000000000⟩
  | .rdRsv0100 _ => ⟨48, 0x010000000000, 0xFF0000000000⟩
  | .rdRsv0200 _ => ⟨48, 0x020000000000, 0xFE0000000000⟩
  | .rdRsv0400 _ => ⟨48, 0x040000000000, 0xFC0000000000⟩
  | .rdRsv0800 _ => ⟨48, 0x080000000000, 0xF80000000000⟩
  | .rdRsv1000 _ => ⟨48, 0x100000000000, 0xF00000000000⟩
  | .rdIn _ => ⟨48, 0x200000000000, 0xE00000000000⟩
  | .rdOut _ => ⟨48, 0x400000000000, 0xE00000000000⟩
  | .rdRsv6000 _ => ⟨48, 0x600000000000, 0xE00000000000⟩
  | .wrId _ => ⟨48, 0x800000000000, 0xFFFF00000000⟩
  | .wrCmd _ => ⟨48, 0x800100000000, 0xFFFF00000000⟩
  | .wrStatus _ => ⟨48, 0x800200000000, 0xFFFF00000000⟩
  | .wrInten _ => ⟨48, 0x800300000000, 0xFFFF00000000⟩
  | .wrKeyPush _ => ⟨48, 0x800400000000, 0xFFFF00000000⟩
  | .wrKeyCnt _ => ⟨48, 0x800500000000, 0xFFFF00000000⟩
  | .wrAddrPush _ => ⟨48, 0x800600000000, 0xFFFF00000000⟩
  | .wrAddrCnt _ => ⟨48, 0x800700000000, 0xFFFF00000000⟩
  | .wrFcnt _ => ⟨48, 0x800800000000, 0xFFFF00000000⟩
  | .wrDir _ => ⟨48, 0x800900000000, 0xFFFF00000000⟩
  | .wrPlen _ => ⟨48, 0x800A00000000, 0xFFFF00000000⟩
  | .wrRlen _ => ⟨48, 0x800B00000000, 0xFFFF00000000⟩
  | .wrBufsz _ => ⟨48, 0x800C00000000, 0xFFFF00000000⟩
  | .wrRsv000D _ => ⟨48, 0x800D00000000, 0xFFFF00000000⟩
  | .wrRsv000E _ _ => ⟨48, 0x800E00000000, 0xFFFE00000000⟩
  | .wrRsv0010 _ _ => ⟨48, 0x801000000000, 0xFFF000000000⟩
  | .wrRsv0020 _ _ => ⟨48, 0x802000000000, 0xFFE000000000⟩
  | .wrRsv0040 _ _ => ⟨48, 0x804000000000, 0xFFC000000000⟩
  | .wrRsv0080 _ _ => ⟨48, 0x808000000000, 0xFF8000000000⟩
  | .wrRsv0100 _ _ => ⟨48, 0x810000000000, 0xFF0000000000⟩
  | .wrRsv0200 _ _ => ⟨48, 0x820000000000, 0xFE0000000000⟩
  | .wrRsv0400 _ _ => ⟨48, 0x840000000000, 0xFC0000000000⟩
  | .wrRsv0800 _ _ => ⟨48, 0x880000000000, 0xF80000000000⟩
  | .wrRsv1000 _ _ => ⟨48, 0x900000000000, 0xF00000000000⟩
  | .wrIn _ _ => ⟨48, 0xA00000000000, 0xE00000000000⟩
  | .wrOut _ _ => ⟨48, 0xC00000000000, 0xE00000000000⟩
  | .wrRsv6000 _ _ => ⟨48, 0xE00000000000, 0xE00000000000⟩
  | .nop => ⟨32, 0x00000000, 0xFFFFFFFF⟩
  | .crypt => ⟨32, 0x00000001, 0xFFFFFFFF⟩
  | .ecb => ⟨32, 0x00000002, 0xFFFFFFFF⟩
  | .ksgen => ⟨32, 0x00000003, 0xFFFFFFFF⟩
  | .clrkey => ⟨32, 0x00000004, 0xFFFFFFFF⟩
  | .clraddr => ⟨32, 0x00000005, 0xFFFFFFFF⟩
  | .srst => ⟨32, 0x0000000F, 0xFFFFFFFF⟩
  | .illegal _ => ⟨32, 0x00000000, 0x00000000⟩

/-- The bits of an encoded word, numbered as the table numbers them. -/
def Encoded.bits : Encoded → Nat
  | .bus w => w.toNat
  | .cmd c => c.toNat

/-- The length in bits of an encoded word's format (rule R120). -/
def Encoded.nbits : Encoded → Nat
  | .bus _ => 48
  | .cmd _ => 32

end Sys2Proof
end

