-- ==== Sys2Proof/Config.lean ====
section
/-! DEFINITION. The parameters of rule R10 and the constant registers of rules R31 and R53. -/

namespace Sys2Proof

/-- The parameter of one LKE that software can see: the size of its IN and OUT buffers (rule R10).
`BUF_BYTES` is a multiple of 16 from 16 to 32768, so it is held as its number of 16-byte blocks less one,
and every value of the field is a legal size. A machine carries its `Config` in its state, where no step
changes it, so a statement about every state holds for every legal `BUF_BYTES` (log entry 1). -/
structure Config where
  bufBlocksLessOne : Fin 2048
  deriving DecidableEq, Repr

/-- `BUF_BYTES` (rules R10, R53). -/
def Config.bufBytes (c : Config) : Nat := 16 * (c.bufBlocksLessOne.val + 1)

/-- The value this spec takes by default, `BUF_BYTES = 256` (rule R10, decision D5). -/
def Config.standard : Config := ⟨15⟩

/-- `BASE`, the host byte address of word index 0: OPEN in rule R10 and decision D3, so a constant with no
value (log entry 2). -/
opaque Config.base : Nat

/-- The constant of the `ID` register, the codes of "AES1" (rule R31). -/
def Config.idValue : Word := 0x41455331#32

end Sys2Proof
end

