-- ==== Sys2Proof/Machine/State.lean ====
section
/-! DEFINITION. The state: the architectural state of rule R30, one field per element; the port's signals and
the environment's pending inputs (rules R6, R80, R94); the parameter of the machine (rule R10). -/

namespace Sys2Proof.Machine

/-- A long command, the values of `PENDING` other than none (rules R17, R56). -/
inductive LongCmd where
  | crypt
  | ecb
  | ksgen
  deriving DecidableEq, Repr

/-- The command error codes of rule R300. Codes 5 to 15 are never produced (rule R39). -/
inductive ErrCode where
  | none
  | illegalCmd
  | invalidKeyLength
  | invalidAddressLength
  | invalidPayloadLength
  deriving DecidableEq, Repr

/-- A byte buffer: address and byte, addresses strictly rising, and no cell equal to what an unlisted address
reads as. -/
abbrev Memory := List Host.Cell

/-- What an unlisted address of a buffer reads as: reset sets every byte of IN and OUT to `0x00`
(rules R54, R55, R330). -/
def Memory.unlisted : Byte := 0x00#8

/-- The complete architectural state of one LKE (rule R30), in that rule's order. -/
structure Arch where
  /-- `KEY[0..15]` (rule R43). -/
  key : Vector Byte 16
  /-- `KEY_CNT`, 0 to 17 (rule R44). -/
  keyCnt : Fin 18
  /-- `ADDR[0..3]` as presented (rule R46). -/
  addr : Vector Byte 4
  /-- `ADDR_CNT`, 0 to 5 (rule R46). -/
  addrCnt : Fin 6
  /-- `FCNT` (rule R48). -/
  fcnt : Word
  /-- `DIR`, 0 uplink, 1 downlink (rule R49). -/
  dir : BitVec 1
  /-- `PLEN` (rule R51). -/
  plen : BitVec 16
  /-- `RLEN` (rule R52). -/
  rlen : BitVec 16
  /-- `INTEN.IE` (rule R41). -/
  ie : Bool
  /-- `STATUS.BUSY` (rule R35). -/
  busy : Bool
  /-- `STATUS.DONE` (rule R36). -/
  done : Bool
  /-- `STATUS.ERR` (rule R37). -/
  err : Bool
  /-- `STATUS.ACCERR` (rule R38). -/
  accerr : Bool
  /-- `STATUS.ERRCODE` (rule R39). -/
  errcode : ErrCode
  /-- `PENDING` (rule R56). -/
  pending : Option LongCmd
  /-- `IN[0..BUF_BYTES)` (rule R54). -/
  inBuf : Memory
  /-- `OUT[0..BUF_BYTES)` (rule R55). -/
  outBuf : Memory
  deriving DecidableEq, Repr

/-- One access of the host's processor before the interconnect: a byte address and a size in bytes (rules R81,
R89). -/
structure HostAccess where
  we : Bool
  addr : Nat
  size : Nat
  wdata : Word
  deriving DecidableEq, Repr

/-- What the outside world and the scheduler do next (rules R6, R94, R332). -/
inductive Input where
  /-- A host transaction, or a command word written to `CMD` (rules R120, R150). -/
  | host (e : Encoded)
  /-- A host access by byte address (rules R81, R89). -/
  | access (a : HostAccess)
  /-- The scheduler gives the engine its turn (rules R6, R261). -/
  | engine
  /-- The level of the reset input changes (rule R332). -/
  | rst (level : Bool)
  deriving DecidableEq, Repr

/-- The port and its environment: the reset input's level, the inputs still to come, oldest first, and the
words that reads have returned, oldest first (rules R80, R94, R349). None of it is architectural state. -/
structure Port where
  rst : Bool
  inputs : List Input
  reads : List Word
  deriving DecidableEq, Repr

/-- The machine: its parameter, its architectural state, its port. -/
structure State where
  cfg : Config
  arch : Arch
  port : Port
  deriving DecidableEq, Repr

/-- The machine never faults: "No behaviour in this spec is a `fault` or a `stuck` state"
(93_implementation_defined.md). No constructor, so nothing raises one; safe. -/
inductive Fault
  deriving DecidableEq, Repr

/-- Why a step has no meaning. -/
inductive Refusal where
  /-- An instruction without a meaning, by mnemonic; only an arm of `exec` raises it, and no arm does. Safe. -/
  | notModelled (mnemonic : String)
  /-- A host access to LKE's range that is not one aligned 32-bit word: rule R89 says a model refuses it by name.
  Raised by `accessTurn` alone, never by an instruction. Safe. -/
  | nonWordAccess
  deriving DecidableEq, Repr

/-- Every element at its reset value (rules R30, R330). -/
def Arch.reset : Arch where
  key := Vector.replicate 16 0x00#8
  keyCnt := 0
  addr := Vector.replicate 4 0x00#8
  addrCnt := 0
  fcnt := 0x00000000#32
  dir := 0#1
  plen := 0#16
  rlen := 0#16
  ie := false
  busy := false
  done := false
  err := false
  accerr := false
  errcode := .none
  pending := none
  inBuf := []
  outBuf := []

/-- The machine right after reset (rules R330, R331, R334): the default parameter of rule R10, the reset input
released, no input pending and nothing read yet (log entries 1, 3). -/
def State.reset : State where
  cfg := Config.standard
  arch := Arch.reset
  port := { rst := false, inputs := [], reads := [] }

end Sys2Proof.Machine
end

