-- ==== Sys2Proof/Machine/Flags.lean ====
section
/-! DEFINITION. The flags: `STATUS` as a word, its write-1-to-clear, and the flag changes of command issue,
command end and command error (rules R34 to R39, R59). No arithmetic result sets a flag (rule R59). -/

namespace Sys2Proof.Machine

/-- The code an error is reported with (rule R300). -/
def ErrCode.code : ErrCode → BitVec 4
  | .none => 0#4
  | .illegalCmd => 1#4
  | .invalidKeyLength => 2#4
  | .invalidAddressLength => 3#4
  | .invalidPayloadLength => 4#4

/-- The word a read of `STATUS` returns (rules R34, R153). -/
def statusWord (a : Arch) : Word :=
  (a.errcode.code ++ BitVec.ofBool a.accerr ++ BitVec.ofBool a.err ++ BitVec.ofBool a.done
    ++ BitVec.ofBool a.busy).setWidth 32

/-- Write 1 to clear: bit 1 clears `DONE`, bit 2 `ERR` and `ERRCODE`, bit 3 `ACCERR` (rule R156). -/
def clearFlags (d : Word) (a : Arch) : Arch :=
  { a with
    done := a.done && !d.getLsbD 1
    err := a.err && !d.getLsbD 2
    errcode := if d.getLsbD 2 then .none else a.errcode
    accerr := a.accerr && !d.getLsbD 3 }

/-- What the issue of every command other than `NOP` and `SRST` first clears (rule R260). -/
def beginCommand (a : Arch) : Arch :=
  { a with done := false, err := false, errcode := .none, rlen := 0#16 }

/-- The end of a command without error sets `DONE` (rule R36). -/
def setDone (a : Arch) : Arch := { a with done := true }

/-- A write discarded while busy sets `ACCERR` and nothing else (rules R38, R303, R340). -/
def setAccessError (a : Arch) : Arch := { a with accerr := true }

/-- The interrupt output, a level and not state: `INTEN.IE ∧ STATUS.DONE` (rules R57, R305). -/
def State.irq (s : State) : Bool := s.arch.ie && s.arch.done

end Sys2Proof.Machine
end

