-- ==== Sys2Proof/Machine/Operands.lean ====
section
/-! DEFINITION. The operand fields of the port's writes (rule R124) and the byte lanes of buffer words (rules
R83, R87). Bits a rule does not name are ignored (rule R40); fields are zero-extended when read back. -/

namespace Sys2Proof.Machine

/-- `wdata[7:0]`, the byte pushed by `KEY_PUSH` and `ADDR_PUSH`. -/
def pushByte (d : Word) : Byte := d.extractLsb' 0 8

/-- `wdata[0]`, the direction bit. -/
def dirField (d : Word) : BitVec 1 := d.extractLsb' 0 1

/-- `wdata[15:0]`, the payload length. -/
def plenField (d : Word) : BitVec 16 := d.extractLsb' 0 16

/-- `wdata[0]`, the interrupt enable. -/
def ieField (d : Word) : Bool := d.getLsbD 0

/-- `wdata[8j+7:8j]`, byte lane `j` of a buffer word (rules R83, R124). -/
def laneByte (d : Word) (j : Nat) : Byte := d.extractLsb' (8 * j) 8

/-- A buffer word from its four bytes, the lowest index in bits [7:0] (rules R83, R84, R87). -/
def wordOfLanes (b0 b1 b2 b3 : Byte) : Word := b3 ++ b2 ++ b1 ++ b0

end Sys2Proof.Machine
end

