-- ==== Sys2Proof/Machine/Ops.lean ====
section
/-! DEFINITION. The operations the instructions share: bytes of a buffer, the host's read and write step, the
push registers, reset, and the command error, which is this hardware's whole exception entry. -/

namespace Sys2Proof.Machine

/-! ## Buffers -/

/-- Byte `n` of a buffer (rule R14). -/
def Memory.read : Memory → Nat → Byte
  | [], _ => Memory.unlisted
  | (a, b) :: m, n => if n = a then b else Memory.read m n

/-- The buffer with byte `n` set to `v`, in canonical form. -/
def Memory.write : Memory → Nat → Byte → Memory
  | [], n, v => if v = Memory.unlisted then [] else [(n, v)]
  | (a, b) :: m, n, v =>
    if n < a then if v = Memory.unlisted then (a, b) :: m else (n, v) :: (a, b) :: m
    else if n = a then if v = Memory.unlisted then m else (n, v) :: m
    else (a, b) :: Memory.write m n v

/-- Addresses strictly rising from `lo`, none of the bytes the unlisted one. -/
def Memory.wfFrom : Nat → Memory → Bool
  | _, [] => true
  | lo, (a, b) :: m => decide (lo ≤ a) && (b != Memory.unlisted) && Memory.wfFrom (a + 1) m

/-- The canonical form. -/
def Memory.wf (m : Memory) : Bool := Memory.wfFrom 0 m

/-- Every listed byte lies in `[0, n)`. -/
def Memory.within (m : Memory) (n : Nat) : Bool := m.all fun c => decide (c.1 < n)

/-- `MemRead(n, k)`: bytes `n` to `n + k - 1` (rule R14). -/
def Memory.readBytes (m : Memory) (n : Nat) : Nat → List Byte
  | 0 => []
  | k + 1 => m.read n :: m.readBytes (n + 1) k

/-- `MemWrite(n, k, v)`: the bytes `v` at `n`, `n + 1`, … (rule R14). -/
def Memory.writeBytes (m : Memory) (n : Nat) : List Byte → Memory
  | [] => m
  | b :: bs => (m.write n b).writeBytes (n + 1) bs

/-- Buffer word `k` (rules R83, R84). -/
def Memory.readWord (m : Memory) (k : Nat) : Word :=
  wordOfLanes (m.read (4 * k)) (m.read (4 * k + 1)) (m.read (4 * k + 2)) (m.read (4 * k + 3))

/-- Buffer word `k` set to `d`, all four lanes (rules R83, R171). -/
def Memory.writeWord (m : Memory) (k : Nat) (d : Word) : Memory :=
  m.writeBytes (4 * k) [laneByte d 0, laneByte d 1, laneByte d 2, laneByte d 3]

/-! ## The host's step -/

/-- A word drives `rdata`. -/
def Port.respond (p : Port) (d : Word) : Port := { p with reads := p.reads ++ [d] }

/-- `rdata` after the last read, meaningful only on a read (rule R80). -/
def State.rdata (s : State) : Option Word := s.port.reads.getLast?

/-- A read returns a word and changes nothing (rules R91, R150); while the reset input is asserted it returns 0
(rule R332). -/
def hostRead (s : State) (d : Word) : State :=
  { s with port := s.port.respond (if s.port.rst then 0x00000000#32 else d) }

/-- A write takes effect when LKE is idle; while busy it is discarded and sets `ACCERR` (rules R150, R340); while
the reset input is asserted it is discarded without `ACCERR` (rule R332). -/
def hostWrite (s : State) (f : Arch → Arch) : State :=
  if s.port.rst then s
  else if s.arch.busy then { s with arch := setAccessError s.arch }
  else { s with arch := f s.arch }

/-! ## Reset and errors -/

/-- `Reset()`: every element takes its reset value in one step; a command in flight is discarded (rule R330). -/
def resetArch (_a : Arch) : Arch := Arch.reset

/-- The write of the `SRST` word: it takes effect even while busy and sets no `ACCERR` (rules R269, R333, R340);
while the reset input is asserted no transaction takes effect (rule R332). -/
def hostSoftReset (s : State) : State :=
  if s.port.rst then s else { s with arch := resetArch s.arch }

/-- `raise CmdError(code)`, the whole of this hardware's exception entry: three status fields, no saved state, no
transfer of control (rules R302, R307). Its acknowledgement is `clearFlags` (rule R308). -/
def raiseCmdError (code : ErrCode) (a : Arch) : Arch :=
  { a with err := true, errcode := code, done := true }

/-! ## Push registers -/

/-- Append one key byte; the 17th and later pushes only set the count to 17 (rule R158). -/
def pushKey (b : Byte) (a : Arch) : Arch :=
  if h : a.keyCnt.val < 16 then
    { a with key := a.key.set a.keyCnt.val b, keyCnt := ⟨a.keyCnt.val + 1, by omega⟩ }
  else { a with keyCnt := 17 }

/-- Append one address byte; the 5th and later pushes only set the count to 5 (rule R159). -/
def pushAddr (b : Byte) (a : Arch) : Arch :=
  if h : a.addrCnt.val < 4 then
    { a with addr := a.addr.set a.addrCnt.val b, addrCnt := ⟨a.addrCnt.val + 1, by omega⟩ }
  else { a with addrCnt := 5 }

end Sys2Proof.Machine
end

