-- ==== Sys2Proof/Machine/Commands.lean ====
section
/-! DEFINITION. The commands (rules R260, R264 to R271): what a write of each command word to `CMD` does. The
result of a long command is the engine's (Machine/Engine.lean). -/

namespace Sys2Proof.Machine

/-- A long command whose checks passed: `PENDING` and `BUSY` are set (rules R35, R56). -/
def startLong (c : LongCmd) (a : Arch) : Arch := { a with pending := some c, busy := true }

/-- The checks of CRYPT and KSGEN in the order of rule R301: the first that fails gives the code. -/
def payloadCheck (cfg : Config) (a : Arch) : Option ErrCode :=
  if a.keyCnt ≠ 16 then some .invalidKeyLength
  else if a.addrCnt ≠ 4 then some .invalidAddressLength
  else if cfg.bufBytes < a.plen.toNat then some .invalidPayloadLength
  else none

/-- The one check of ECB (rules R265, R301). -/
def keyCheck (a : Arch) : Option ErrCode :=
  if a.keyCnt ≠ 16 then some .invalidKeyLength else none

/-- A failed check ends the command with its error; a passed one starts it (rules R264, R302). -/
def startChecked (failed : Option ErrCode) (c : LongCmd) (a : Arch) : Arch :=
  match failed with
  | some code => raiseCmdError code a
  | none => startLong c a

/-- `IssueCRYPT` (rule R264). -/
def issueCrypt (cfg : Config) (a : Arch) : Arch := startChecked (payloadCheck cfg a) .crypt a

/-- `IssueECB` (rule R265). -/
def issueEcb (a : Arch) : Arch := startChecked (keyCheck a) .ecb a

/-- `IssueKSGEN` (rule R266). -/
def issueKsgen (cfg : Config) (a : Arch) : Arch := startChecked (payloadCheck cfg a) .ksgen a

/-- `ClrKey` (rule R267). -/
def clearKey (a : Arch) : Arch := setDone { a with key := Vector.replicate 16 0x00#8, keyCnt := 0 }

/-- `ClrAddr` (rule R268). -/
def clearAddr (a : Arch) : Arch := setDone { a with addr := Vector.replicate 4 0x00#8, addrCnt := 0 }

/-- `Issue(c)` of a word other than `SRST`, which `hostSoftReset` takes (rule R260). -/
def issue (cfg : Config) (c : Word) (a : Arch) : Arch :=
  if c = 0x00000000#32 then a
  else if c = 0x00000001#32 then issueCrypt cfg (beginCommand a)
  else if c = 0x00000002#32 then issueEcb (beginCommand a)
  else if c = 0x00000003#32 then issueKsgen cfg (beginCommand a)
  else if c = 0x00000004#32 then clearKey (beginCommand a)
  else if c = 0x00000005#32 then clearAddr (beginCommand a)
  else raiseCmdError .illegalCmd (beginCommand a)

/-- `WR CMD`: command issue (rules R150, R174, R260). -/
def execWrCmd (c : Word) (s : State) : Host.Outcome State Fault Refusal :=
  .next (if c = 0x0000000F#32 then hostSoftReset s else hostWrite s (issue s.cfg c))

/-- `NOP` clears and sets nothing (rule R270). -/
def execNop (s : State) : Host.Outcome State Fault Refusal := .next (hostWrite s fun a => a)

/-- `CRYPT` (rules R260, R264). -/
def execCrypt (s : State) : Host.Outcome State Fault Refusal :=
  .next (hostWrite s fun a => issueCrypt s.cfg (beginCommand a))

/-- `ECB` (rules R260, R265). -/
def execEcb (s : State) : Host.Outcome State Fault Refusal :=
  .next (hostWrite s fun a => issueEcb (beginCommand a))

/-- `KSGEN` (rules R260, R266). -/
def execKsgen (s : State) : Host.Outcome State Fault Refusal :=
  .next (hostWrite s fun a => issueKsgen s.cfg (beginCommand a))

/-- `CLRKEY` (rules R260, R267). -/
def execClrkey (s : State) : Host.Outcome State Fault Refusal :=
  .next (hostWrite s fun a => clearKey (beginCommand a))

/-- `CLRADDR` (rules R260, R268). -/
def execClraddr (s : State) : Host.Outcome State Fault Refusal :=
  .next (hostWrite s fun a => clearAddr (beginCommand a))

/-- `SRST` (rule R269). -/
def execSrst (s : State) : Host.Outcome State Fault Refusal := .next (hostSoftReset s)

/-- An illegal command word: which word it is has no effect (rule R271). -/
def execIllegal (_c : Word) (s : State) : Host.Outcome State Fault Refusal :=
  .next (hostWrite s fun a => raiseCmdError .illegalCmd (beginCommand a))

end Sys2Proof.Machine
end

