-- ==== Sys2Proof/Machine/Reads.lean ====
section
/-! DEFINITION. The host's reads (rules R151 to R155, R160, R161, R163, R164, R166, R168 to R170, R173). -/

namespace Sys2Proof.Machine

/-- The word an IN read returns, busy or not; at or beyond `BUF_BYTES` it is reserved (rules R83, R170). -/
def inWindowWord (s : State) (k : Nat) : Word :=
  if 4 * k < s.cfg.bufBytes then s.arch.inBuf.readWord k else 0x00000000#32

/-- The word an OUT read returns: 0 while busy, and at or beyond `BUF_BYTES` (rules R84, R163). -/
def outWindowWord (s : State) (k : Nat) : Word :=
  if s.cfg.bufBytes ≤ 4 * k || s.arch.busy then 0x00000000#32 else s.arch.outBuf.readWord k

/-- `RD ID`: the constant, in every state (rule R151). -/
def execRdId (s : State) : Host.Outcome State Fault Refusal :=
  .next (hostRead s Config.idValue)

/-- `RD CMD`: a write-only word reads 0 (rule R152). -/
def execRdCmd (s : State) : Host.Outcome State Fault Refusal :=
  .next (hostRead s 0x00000000#32)

/-- `RD STATUS`: the flags; the read clears nothing (rule R153). -/
def execRdStatus (s : State) : Host.Outcome State Fault Refusal :=
  .next (hostRead s (statusWord s.arch))

/-- `RD INTEN`: `IE` in bit 0 (rule R154). -/
def execRdInten (s : State) : Host.Outcome State Fault Refusal :=
  .next (hostRead s ((BitVec.ofBool s.arch.ie).setWidth 32))

/-- `RD KEY_PUSH`: a write-only word reads 0 (rule R152). -/
def execRdKeyPush (s : State) : Host.Outcome State Fault Refusal :=
  .next (hostRead s 0x00000000#32)

/-- `RD KEY_CNT`: 0 to 17 (rule R155). -/
def execRdKeyCnt (s : State) : Host.Outcome State Fault Refusal :=
  .next (hostRead s (BitVec.ofNat 32 s.arch.keyCnt.val))

/-- `RD ADDR_PUSH`: a write-only word reads 0 (rule R152). -/
def execRdAddrPush (s : State) : Host.Outcome State Fault Refusal :=
  .next (hostRead s 0x00000000#32)

/-- `RD ADDR_CNT`: 0 to 5 (rule R160). -/
def execRdAddrCnt (s : State) : Host.Outcome State Fault Refusal :=
  .next (hostRead s (BitVec.ofNat 32 s.arch.addrCnt.val))

/-- `RD FCNT`: all 32 bits (rule R161). -/
def execRdFcnt (s : State) : Host.Outcome State Fault Refusal :=
  .next (hostRead s s.arch.fcnt)

/-- `RD DIR`: bits [31:1] read 0 (rule R164). -/
def execRdDir (s : State) : Host.Outcome State Fault Refusal :=
  .next (hostRead s (s.arch.dir.setWidth 32))

/-- `RD PLEN`: as written, above `BUF_BYTES` or not (rule R166). -/
def execRdPlen (s : State) : Host.Outcome State Fault Refusal :=
  .next (hostRead s (s.arch.plen.setWidth 32))

/-- `RD RLEN`: the result length (rule R168). -/
def execRdRlen (s : State) : Host.Outcome State Fault Refusal :=
  .next (hostRead s (s.arch.rlen.setWidth 32))

/-- `RD BUFSZ`: the parameter `BUF_BYTES` (rules R53, R169). -/
def execRdBufsz (s : State) : Host.Outcome State Fault Refusal :=
  .next (hostRead s (BitVec.ofNat 32 s.cfg.bufBytes))

/-- `RD` of a reserved word 0x000D..0x000D reads 0 (rules R85, R173). -/
def execRdRsv000D (s : State) : Host.Outcome State Fault Refusal :=
  .next (hostRead s 0x00000000#32)

/-- `RD` of a reserved word 0x000E..0x000F reads 0 (rules R85, R173). -/
def execRdRsv000E (_o : BitVec 1) (s : State) : Host.Outcome State Fault Refusal :=
  .next (hostRead s 0x00000000#32)

/-- `RD` of a reserved word 0x0010..0x001F reads 0 (rules R85, R173). -/
def execRdRsv0010 (_o : BitVec 4) (s : State) : Host.Outcome State Fault Refusal :=
  .next (hostRead s 0x00000000#32)

/-- `RD` of a reserved word 0x0020..0x003F reads 0 (rules R85, R173). -/
def execRdRsv0020 (_o : BitVec 5) (s : State) : Host.Outcome State Fault Refusal :=
  .next (hostRead s 0x00000000#32)

/-- `RD` of a reserved word 0x0040..0x007F reads 0 (rules R85, R173). -/
def execRdRsv0040 (_o : BitVec 6) (s : State) : Host.Outcome State Fault Refusal :=
  .next (hostRead s 0x00000000#32)

/-- `RD` of a reserved word 0x0080..0x00FF reads 0 (rules R85, R173). -/
def execRdRsv0080 (_o : BitVec 7) (s : State) : Host.Outcome State Fault Refusal :=
  .next (hostRead s 0x00000000#32)

/-- `RD` of a reserved word 0x0100..0x01FF reads 0 (rules R85, R173). -/
def execRdRsv0100 (_o : BitVec 8) (s : State) : Host.Outcome State Fault Refusal :=
  .next (hostRead s 0x00000000#32)

/-- `RD` of a reserved word 0x0200..0x03FF reads 0 (rules R85, R173). -/
def execRdRsv0200 (_o : BitVec 9) (s : State) : Host.Outcome State Fault Refusal :=
  .next (hostRead s 0x00000000#32)

/-- `RD` of a reserved word 0x0400..0x07FF reads 0 (rules R85, R173). -/
def execRdRsv0400 (_o : BitVec 10) (s : State) : Host.Outcome State Fault Refusal :=
  .next (hostRead s 0x00000000#32)

/-- `RD` of a reserved word 0x0800..0x0FFF reads 0 (rules R85, R173). -/
def execRdRsv0800 (_o : BitVec 11) (s : State) : Host.Outcome State Fault Refusal :=
  .next (hostRead s 0x00000000#32)

/-- `RD` of a reserved word 0x1000..0x1FFF reads 0 (rules R85, R173). -/
def execRdRsv1000 (_o : BitVec 12) (s : State) : Host.Outcome State Fault Refusal :=
  .next (hostRead s 0x00000000#32)

/-- `RD IN+4k` (rule R170). -/
def execRdIn (k : BitVec 13) (s : State) : Host.Outcome State Fault Refusal :=
  .next (hostRead s (inWindowWord s k.toNat))

/-- `RD OUT+4k` (rule R163). -/
def execRdOut (k : BitVec 13) (s : State) : Host.Outcome State Fault Refusal :=
  .next (hostRead s (outWindowWord s k.toNat))

/-- `RD` of a reserved word 0x6000..0x7FFF reads 0 (rules R85, R173). -/
def execRdRsv6000 (_o : BitVec 13) (s : State) : Host.Outcome State Fault Refusal :=
  .next (hostRead s 0x00000000#32)

end Sys2Proof.Machine
end

