-- ==== Sys2Proof/Machine/Writes.lean ====
section
/-! DEFINITION. The host's writes but `WR CMD` (rules R156 to R159, R162, R165, R167, R171, R172). -/

namespace Sys2Proof.Machine

/-- A write that has no effect while idle: of a read-only register, the OUT window or a reserved word. While busy
it sets `ACCERR` like every write (rules R85, R172). -/
def ignoredWrite (s : State) : State := hostWrite s fun a => a

/-- The write of IN word `k`: all four lanes, or none at or beyond `BUF_BYTES` (rules R83, R171). -/
def writeInWord (cfg : Config) (k : Nat) (d : Word) (a : Arch) : Arch :=
  if 4 * k < cfg.bufBytes then { a with inBuf := a.inBuf.writeWord k d } else a

/-- `WR ID`, a read-only register (rule R172). -/
def execWrId (_d : Word) (s : State) : Host.Outcome State Fault Refusal :=
  .next (ignoredWrite s)

/-- `WR STATUS`: write 1 to clear (rule R156). -/
def execWrStatus (d : Word) (s : State) : Host.Outcome State Fault Refusal :=
  .next (hostWrite s (clearFlags d))

/-- `WR INTEN`: bits [31:1] are ignored (rule R157). -/
def execWrInten (d : Word) (s : State) : Host.Outcome State Fault Refusal :=
  .next (hostWrite s fun a => { a with ie := ieField d })

/-- `WR KEY_PUSH`: append one key byte (rule R158). -/
def execWrKeyPush (d : Word) (s : State) : Host.Outcome State Fault Refusal :=
  .next (hostWrite s (pushKey (pushByte d)))

/-- `WR KEY_CNT`, a read-only register (rule R172). -/
def execWrKeyCnt (_d : Word) (s : State) : Host.Outcome State Fault Refusal :=
  .next (ignoredWrite s)

/-- `WR ADDR_PUSH`: append one address byte (rule R159). -/
def execWrAddrPush (d : Word) (s : State) : Host.Outcome State Fault Refusal :=
  .next (hostWrite s (pushAddr (pushByte d)))

/-- `WR ADDR_CNT`, a read-only register (rule R172). -/
def execWrAddrCnt (_d : Word) (s : State) : Host.Outcome State Fault Refusal :=
  .next (ignoredWrite s)

/-- `WR FCNT`: every value is legal (rule R162). -/
def execWrFcnt (d : Word) (s : State) : Host.Outcome State Fault Refusal :=
  .next (hostWrite s fun a => { a with fcnt := d })

/-- `WR DIR`: bits [31:1] are ignored (rule R165). -/
def execWrDir (d : Word) (s : State) : Host.Outcome State Fault Refusal :=
  .next (hostWrite s fun a => { a with dir := dirField d })

/-- `WR PLEN`: any 16-bit value is stored (rule R167). -/
def execWrPlen (d : Word) (s : State) : Host.Outcome State Fault Refusal :=
  .next (hostWrite s fun a => { a with plen := plenField d })

/-- `WR RLEN`, a read-only register (rule R172). -/
def execWrRlen (_d : Word) (s : State) : Host.Outcome State Fault Refusal :=
  .next (ignoredWrite s)

/-- `WR BUFSZ`, a read-only register (rule R172). -/
def execWrBufsz (_d : Word) (s : State) : Host.Outcome State Fault Refusal :=
  .next (ignoredWrite s)

/-- `WR` of a reserved word 0x000D..0x000D (rules R85, R172). -/
def execWrRsv000D (_d : Word) (s : State) : Host.Outcome State Fault Refusal :=
  .next (ignoredWrite s)

/-- `WR` of a reserved word 0x000E..0x000F (rules R85, R172). -/
def execWrRsv000E (_o : BitVec 1) (_d : Word) (s : State) : Host.Outcome State Fault Refusal :=
  .next (ignoredWrite s)

/-- `WR` of a reserved word 0x0010..0x001F (rules R85, R172). -/
def execWrRsv0010 (_o : BitVec 4) (_d : Word) (s : State) : Host.Outcome State Fault Refusal :=
  .next (ignoredWrite s)

/-- `WR` of a reserved word 0x0020..0x003F (rules R85, R172). -/
def execWrRsv0020 (_o : BitVec 5) (_d : Word) (s : State) : Host.Outcome State Fault Refusal :=
  .next (ignoredWrite s)

/-- `WR` of a reserved word 0x0040..0x007F (rules R85, R172). -/
def execWrRsv0040 (_o : BitVec 6) (_d : Word) (s : State) : Host.Outcome State Fault Refusal :=
  .next (ignoredWrite s)

/-- `WR` of a reserved word 0x0080..0x00FF (rules R85, R172). -/
def execWrRsv0080 (_o : BitVec 7) (_d : Word) (s : State) : Host.Outcome State Fault Refusal :=
  .next (ignoredWrite s)

/-- `WR` of a reserved word 0x0100..0x01FF (rules R85, R172). -/
def execWrRsv0100 (_o : BitVec 8) (_d : Word) (s : State) : Host.Outcome State Fault Refusal :=
  .next (ignoredWrite s)

/-- `WR` of a reserved word 0x0200..0x03FF (rules R85, R172). -/
def execWrRsv0200 (_o : BitVec 9) (_d : Word) (s : State) : Host.Outcome State Fault Refusal :=
  .next (ignoredWrite s)

/-- `WR` of a reserved word 0x0400..0x07FF (rules R85, R172). -/
def execWrRsv0400 (_o : BitVec 10) (_d : Word) (s : State) : Host.Outcome State Fault Refusal :=
  .next (ignoredWrite s)

/-- `WR` of a reserved word 0x0800..0x0FFF (rules R85, R172). -/
def execWrRsv0800 (_o : BitVec 11) (_d : Word) (s : State) : Host.Outcome State Fault Refusal :=
  .next (ignoredWrite s)

/-- `WR` of a reserved word 0x1000..0x1FFF (rules R85, R172). -/
def execWrRsv1000 (_o : BitVec 12) (_d : Word) (s : State) : Host.Outcome State Fault Refusal :=
  .next (ignoredWrite s)

/-- `WR IN+4k` (rule R171). -/
def execWrIn (k : BitVec 13) (d : Word) (s : State) : Host.Outcome State Fault Refusal :=
  .next (hostWrite s (writeInWord s.cfg k.toNat d))

/-- `WR OUT+4k` (rules R84, R172). -/
def execWrOut (_k : BitVec 13) (_d : Word) (s : State) : Host.Outcome State Fault Refusal :=
  .next (ignoredWrite s)

/-- `WR` of a reserved word 0x6000..0x7FFF (rules R85, R172). -/
def execWrRsv6000 (_o : BitVec 13) (_d : Word) (s : State) : Host.Outcome State Fault Refusal :=
  .next (ignoredWrite s)

end Sys2Proof.Machine
end

