-- ==== Sys2Proof/Machine/Dispatch.lean ====
section
/-! DEFINITION. The one dispatch: each instruction's arm calls its meaning. -/

namespace Sys2Proof.Machine

def exec (i : Instr) (s : State) : Host.Outcome State Fault Refusal :=
  match i with
  | .rdId => Sys2Proof.Machine.execRdId s
  | .rdCmd => Sys2Proof.Machine.execRdCmd s
  | .rdStatus => Sys2Proof.Machine.execRdStatus s
  | .rdInten => Sys2Proof.Machine.execRdInten s
  | .rdKeyPush => Sys2Proof.Machine.execRdKeyPush s
  | .rdKeyCnt => Sys2Proof.Machine.execRdKeyCnt s
  | .rdAddrPush => Sys2Proof.Machine.execRdAddrPush s
  | .rdAddrCnt => Sys2Proof.Machine.execRdAddrCnt s
  | .rdFcnt => Sys2Proof.Machine.execRdFcnt s
  | .rdDir => Sys2Proof.Machine.execRdDir s
  | .rdPlen => Sys2Proof.Machine.execRdPlen s
  | .rdRlen => Sys2Proof.Machine.execRdRlen s
  | .rdBufsz => Sys2Proof.Machine.execRdBufsz s
  | .rdRsv000D => Sys2Proof.Machine.execRdRsv000D s
  | .rdRsv000E o => Sys2Proof.Machine.execRdRsv000E o s
  | .rdRsv0010 o => Sys2Proof.Machine.execRdRsv0010 o s
  | .rdRsv0020 o => Sys2Proof.Machine.execRdRsv0020 o s
  | .rdRsv0040 o => Sys2Proof.Machine.execRdRsv0040 o s
  | .rdRsv0080 o => Sys2Proof.Machine.execRdRsv0080 o s
  | .rdRsv0100 o => Sys2Proof.Machine.execRdRsv0100 o s
  | .rdRsv0200 o => Sys2Proof.Machine.execRdRsv0200 o s
  | .rdRsv0400 o => Sys2Proof.Machine.execRdRsv0400 o s
  | .rdRsv0800 o => Sys2Proof.Machine.execRdRsv0800 o s
  | .rdRsv1000 o => Sys2Proof.Machine.execRdRsv1000 o s
  | .rdIn k => Sys2Proof.Machine.execRdIn k s
  | .rdOut k => Sys2Proof.Machine.execRdOut k s
  | .rdRsv6000 o => Sys2Proof.Machine.execRdRsv6000 o s
  | .wrId d => Sys2Proof.Machine.execWrId d s
  | .wrCmd c => Sys2Proof.Machine.execWrCmd c s
  | .wrStatus d => Sys2Proof.Machine.execWrStatus d s
  | .wrInten d => Sys2Proof.Machine.execWrInten d s
  | .wrKeyPush d => Sys2Proof.Machine.execWrKeyPush d s
  | .wrKeyCnt d => Sys2Proof.Machine.execWrKeyCnt d s
  | .wrAddrPush d => Sys2Proof.Machine.execWrAddrPush d s
  | .wrAddrCnt d => Sys2Proof.Machine.execWrAddrCnt d s
  | .wrFcnt d => Sys2Proof.Machine.execWrFcnt d s
  | .wrDir d => Sys2Proof.Machine.execWrDir d s
  | .wrPlen d => Sys2Proof.Machine.execWrPlen d s
  | .wrRlen d => Sys2Proof.Machine.execWrRlen d s
  | .wrBufsz d => Sys2Proof.Machine.execWrBufsz d s
  | .wrRsv000D d => Sys2Proof.Machine.execWrRsv000D d s
  | .wrRsv000E o d => Sys2Proof.Machine.execWrRsv000E o d s
  | .wrRsv0010 o d => Sys2Proof.Machine.execWrRsv0010 o d s
  | .wrRsv0020 o d => Sys2Proof.Machine.execWrRsv0020 o d s
  | .wrRsv0040 o d => Sys2Proof.Machine.execWrRsv0040 o d s
  | .wrRsv0080 o d => Sys2Proof.Machine.execWrRsv0080 o d s
  | .wrRsv0100 o d => Sys2Proof.Machine.execWrRsv0100 o d s
  | .wrRsv0200 o d => Sys2Proof.Machine.execWrRsv0200 o d s
  | .wrRsv0400 o d => Sys2Proof.Machine.execWrRsv0400 o d s
  | .wrRsv0800 o d => Sys2Proof.Machine.execWrRsv0800 o d s
  | .wrRsv1000 o d => Sys2Proof.Machine.execWrRsv1000 o d s
  | .wrIn k d => Sys2Proof.Machine.execWrIn k d s
  | .wrOut k d => Sys2Proof.Machine.execWrOut k d s
  | .wrRsv6000 o d => Sys2Proof.Machine.execWrRsv6000 o d s
  | .nop => Sys2Proof.Machine.execNop s
  | .crypt => Sys2Proof.Machine.execCrypt s
  | .ecb => Sys2Proof.Machine.execEcb s
  | .ksgen => Sys2Proof.Machine.execKsgen s
  | .clrkey => Sys2Proof.Machine.execClrkey s
  | .clraddr => Sys2Proof.Machine.execClraddr s
  | .srst => Sys2Proof.Machine.execSrst s
  | .illegal c => Sys2Proof.Machine.execIllegal c s

end Sys2Proof.Machine
end

