-- ==== Sys2Proof/Machine/Aes.lean ====
section
/-! DEFINITION. The AES-128 forward cipher (rules R200 to R221). Every function is total and reads its arguments
alone (rule R200). -/

namespace Sys2Proof.Machine

/-! ## Finite-field arithmetic -/

/-- Multiplication by 0x02 modulo 0x11B (rules R201, R202). -/
def xtime (b : Byte) : Byte := (b <<< 1) ^^^ (if b.getLsbD 7 then 0x1B#8 else 0x00#8)

/-- `xtime` applied `k` times. -/
def xtimePow (a : Byte) : Nat → Byte
  | 0 => a
  | k + 1 => xtime (xtimePow a k)

/-- One term of the product: `xtime^k(a)` if bit `k` of `b` is set (rule R203). -/
def gfTerm (a b : Byte) (k : Nat) : Byte := if b.getLsbD k then xtimePow a k else 0x00#8

/-- Field multiplication `a • b` (rule R203). -/
def gfMul (a b : Byte) : Byte :=
  gfTerm a b 0 ^^^ gfTerm a b 1 ^^^ gfTerm a b 2 ^^^ gfTerm a b 3 ^^^ gfTerm a b 4 ^^^ gfTerm a b 5
    ^^^ gfTerm a b 6 ^^^ gfTerm a b 7

/-- The square in the field. -/
def gfSquare (a : Byte) : Byte := gfMul a a

/-- Multiplicative inverse, `b^254`, with `inv(0x00) = 0x00` (rule R204): 254 = 2 + 4 + 8 + 16 + 32 + 64 + 128. -/
def gfInv (b : Byte) : Byte :=
  let b2 := gfSquare b
  let b4 := gfSquare b2
  let b8 := gfSquare b4
  let b16 := gfSquare b8
  let b32 := gfSquare b16
  let b64 := gfSquare b32
  let b128 := gfSquare b64
  gfMul b2 (gfMul b4 (gfMul b8 (gfMul b16 (gfMul b32 (gfMul b64 b128)))))

/-- Bit `k` of the affine map, indices mod 8, constant 0x63 (rule R205). -/
def affineBit (b : Byte) (k : Nat) : Bool :=
  b.getLsbD k ^^ b.getLsbD ((k + 4) % 8) ^^ b.getLsbD ((k + 5) % 8) ^^ b.getLsbD ((k + 6) % 8)
    ^^ b.getLsbD ((k + 7) % 8) ^^ (0x63#8).getLsbD k

/-- The affine map of the S-box (rule R205). -/
def affine (b : Byte) : Byte :=
  BitVec.ofBool (affineBit b 7) ++ BitVec.ofBool (affineBit b 6) ++ BitVec.ofBool (affineBit b 5)
    ++ BitVec.ofBool (affineBit b 4) ++ BitVec.ofBool (affineBit b 3) ++ BitVec.ofBool (affineBit b 2)
    ++ BitVec.ofBool (affineBit b 1) ++ BitVec.ofBool (affineBit b 0)

/-- A row of the S-box table, by the high hex digit (rule R206). -/
def sboxRow : Nat → List Byte
  | 0 => [0x63#8, 0x7c#8, 0x77#8, 0x7b#8, 0xf2#8, 0x6b#8, 0x6f#8, 0xc5#8, 0x30#8, 0x01#8, 0x67#8, 0x2b#8, 0xfe#8, 0xd7#8, 0xab#8, 0x76#8]
  | 1 => [0xca#8, 0x82#8, 0xc9#8, 0x7d#8, 0xfa#8, 0x59#8, 0x47#8, 0xf0#8, 0xad#8, 0xd4#8, 0xa2#8, 0xaf#8, 0x9c#8, 0xa4#8, 0x72#8, 0xc0#8]
  | 2 => [0xb7#8, 0xfd#8, 0x93#8, 0x26#8, 0x36#8, 0x3f#8, 0xf7#8, 0xcc#8, 0x34#8, 0xa5#8, 0xe5#8, 0xf1#8, 0x71#8, 0xd8#8, 0x31#8, 0x15#8]
  | 3 => [0x04#8, 0xc7#8, 0x23#8, 0xc3#8, 0x18#8, 0x96#8, 0x05#8, 0x9a#8, 0x07#8, 0x12#8, 0x80#8, 0xe2#8, 0xeb#8, 0x27#8, 0xb2#8, 0x75#8]
  | 4 => [0x09#8, 0x83#8, 0x2c#8, 0x1a#8, 0x1b#8, 0x6e#8, 0x5a#8, 0xa0#8, 0x52#8, 0x3b#8, 0xd6#8, 0xb3#8, 0x29#8, 0xe3#8, 0x2f#8, 0x84#8]
  | 5 => [0x53#8, 0xd1#8, 0x00#8, 0xed#8, 0x20#8, 0xfc#8, 0xb1#8, 0x5b#8, 0x6a#8, 0xcb#8, 0xbe#8, 0x39#8, 0x4a#8, 0x4c#8, 0x58#8, 0xcf#8]
  | 6 => [0xd0#8, 0xef#8, 0xaa#8, 0xfb#8, 0x43#8, 0x4d#8, 0x33#8, 0x85#8, 0x45#8, 0xf9#8, 0x02#8, 0x7f#8, 0x50#8, 0x3c#8, 0x9f#8, 0xa8#8]
  | 7 => [0x51#8, 0xa3#8, 0x40#8, 0x8f#8, 0x92#8, 0x9d#8, 0x38#8, 0xf5#8, 0xbc#8, 0xb6#8, 0xda#8, 0x21#8, 0x10#8, 0xff#8, 0xf3#8, 0xd2#8]
  | 8 => [0xcd#8, 0x0c#8, 0x13#8, 0xec#8, 0x5f#8, 0x97#8, 0x44#8, 0x17#8, 0xc4#8, 0xa7#8, 0x7e#8, 0x3d#8, 0x64#8, 0x5d#8, 0x19#8, 0x73#8]
  | 9 => [0x60#8, 0x81#8, 0x4f#8, 0xdc#8, 0x22#8, 0x2a#8, 0x90#8, 0x88#8, 0x46#8, 0xee#8, 0xb8#8, 0x14#8, 0xde#8, 0x5e#8, 0x0b#8, 0xdb#8]
  | 10 => [0xe0#8, 0x32#8, 0x3a#8, 0x0a#8, 0x49#8, 0x06#8, 0x24#8, 0x5c#8, 0xc2#8, 0xd3#8, 0xac#8, 0x62#8, 0x91#8, 0x95#8, 0xe4#8, 0x79#8]
  | 11 => [0xe7#8, 0xc8#8, 0x37#8, 0x6d#8, 0x8d#8, 0xd5#8, 0x4e#8, 0xa9#8, 0x6c#8, 0x56#8, 0xf4#8, 0xea#8, 0x65#8, 0x7a#8, 0xae#8, 0x08#8]
  | 12 => [0xba#8, 0x78#8, 0x25#8, 0x2e#8, 0x1c#8, 0xa6#8, 0xb4#8, 0xc6#8, 0xe8#8, 0xdd#8, 0x74#8, 0x1f#8, 0x4b#8, 0xbd#8, 0x8b#8, 0x8a#8]
  | 13 => [0x70#8, 0x3e#8, 0xb5#8, 0x66#8, 0x48#8, 0x03#8, 0xf6#8, 0x0e#8, 0x61#8, 0x35#8, 0x57#8, 0xb9#8, 0x86#8, 0xc1#8, 0x1d#8, 0x9e#8]
  | 14 => [0xe1#8, 0xf8#8, 0x98#8, 0x11#8, 0x69#8, 0xd9#8, 0x8e#8, 0x94#8, 0x9b#8, 0x1e#8, 0x87#8, 0xe9#8, 0xce#8, 0x55#8, 0x28#8, 0xdf#8]
  | 15 => [0x8c#8, 0xa1#8, 0x89#8, 0x0d#8, 0xbf#8, 0xe6#8, 0x42#8, 0x68#8, 0x41#8, 0x99#8, 0x2d#8, 0x0f#8, 0xb0#8, 0x54#8, 0xbb#8, 0x16#8]
  | _ => []

/-- The S-box, read from the table of rule R206: the row is the high hex digit and the column the low one. That
it is `affine (gfInv x)`, rule R205, is a statement of its own. -/
def sbox (x : Byte) : Byte := (sboxRow (x.toNat / 16)).getD (x.toNat % 16) 0x00#8

/-! ## Words and the cipher's state -/

/-- A sequence of four bytes (rule R208): a word of the key schedule, or a column of the state (rule R211). -/
structure AesWord where
  b0 : Byte
  b1 : Byte
  b2 : Byte
  b3 : Byte
  deriving DecidableEq, Repr

/-- The 4×4 array `s[q][c]`, by columns: `s[q][c]` is byte `q` of column `c` (rule R211). A round key has the same
form, `w[4r + c]` its column `c` (rule R210). -/
structure AesState where
  c0 : AesWord
  c1 : AesWord
  c2 : AesWord
  c3 : AesWord
  deriving DecidableEq, Repr

/-- `⊕` on words, bytewise (rule R208). -/
def xorWord (x y : AesWord) : AesWord := ⟨x.b0 ^^^ y.b0, x.b1 ^^^ y.b1, x.b2 ^^^ y.b2, x.b3 ^^^ y.b3⟩

/-- `SubWord` (rule R208). -/
def subWord (x : AesWord) : AesWord := ⟨sbox x.b0, sbox x.b1, sbox x.b2, sbox x.b3⟩

/-- `RotWord` (rule R208). -/
def rotWord (x : AesWord) : AesWord := ⟨x.b1, x.b2, x.b3, x.b0⟩

/-- Loading a block column by column, `s[q][c] <- X[q + 4c]` (rule R211). -/
def loadBlock (x : Block) : AesState :=
  ⟨⟨x[0], x[1], x[2], x[3]⟩, ⟨x[4], x[5], x[6], x[7]⟩, ⟨x[8], x[9], x[10], x[11]⟩, ⟨x[12], x[13], x[14], x[15]⟩⟩

/-- Storing it the same way, `Y[q + 4c] = s[q][c]` (rule R211). -/
def storeBlock (s : AesState) : Block :=
  #v[s.c0.b0, s.c0.b1, s.c0.b2, s.c0.b3, s.c1.b0, s.c1.b1, s.c1.b2, s.c1.b3,
     s.c2.b0, s.c2.b1, s.c2.b2, s.c2.b3, s.c3.b0, s.c3.b1, s.c3.b2, s.c3.b3]

/-! ## Key expansion -/

/-- `rc_(j+1)` of the round constants: `rc_1 = 0x01`, each the `xtime` of the one before (rule R207). -/
def roundConstant : Nat → Byte
  | 0 => 0x01#8
  | j + 1 => xtime (roundConstant j)

/-- Four steps of the expansion, `w[4r+4 .. 4r+7]` from `w[4r .. 4r+3]`: only the first passes through `SubWord`,
`RotWord` and the round constant (rule R210). -/
def nextRoundKey (k : AesState) (rc : Byte) : AesState :=
  let w0 := xorWord k.c0 (xorWord (subWord (rotWord k.c3)) ⟨rc, 0x00#8, 0x00#8, 0x00#8⟩)
  let w1 := xorWord k.c1 w0
  let w2 := xorWord k.c2 w1
  let w3 := xorWord k.c3 w2
  ⟨w0, w1, w2, w3⟩

/-- Round key `r` of a key, the words `w[4r .. 4r+3]` (rule R210). -/
def roundKey (key : Block) : Nat → AesState
  | 0 => loadBlock key
  | r + 1 => nextRoundKey (roundKey key r) (roundConstant r)

/-! ## Round transformations -/

/-- `SubBytes` (rule R212). -/
def subBytes (s : AesState) : AesState := ⟨subWord s.c0, subWord s.c1, subWord s.c2, subWord s.c3⟩

/-- `ShiftRows`: row `q` rotates left by `q` places (rule R213). -/
def shiftRows (s : AesState) : AesState :=
  ⟨⟨s.c0.b0, s.c1.b1, s.c2.b2, s.c3.b3⟩, ⟨s.c1.b0, s.c2.b1, s.c3.b2, s.c0.b3⟩,
   ⟨s.c2.b0, s.c3.b1, s.c0.b2, s.c1.b3⟩, ⟨s.c3.b0, s.c0.b1, s.c1.b2, s.c2.b3⟩⟩

/-- `0x03 • a = xtime(a) ⊕ a`, as rule R214 gives it beside `0x02 • a = xtime(a)`. -/
def triple (a : Byte) : Byte := xtime a ^^^ a

/-- `MixColumns` on one column (rule R214). -/
def mixColumn (a : AesWord) : AesWord :=
  ⟨xtime a.b0 ^^^ triple a.b1 ^^^ a.b2 ^^^ a.b3,
   a.b0 ^^^ xtime a.b1 ^^^ triple a.b2 ^^^ a.b3,
   a.b0 ^^^ a.b1 ^^^ xtime a.b2 ^^^ triple a.b3,
   triple a.b0 ^^^ a.b1 ^^^ a.b2 ^^^ xtime a.b3⟩

/-- `MixColumns` (rule R214). -/
def mixColumns (s : AesState) : AesState := ⟨mixColumn s.c0, mixColumn s.c1, mixColumn s.c2, mixColumn s.c3⟩

/-- `AddRoundKey` with the given round key (rule R215). -/
def addRoundKey (s k : AesState) : AesState :=
  ⟨xorWord s.c0 k.c0, xorWord s.c1 k.c1, xorWord s.c2 k.c2, xorWord s.c3 k.c3⟩

/-! ## The cipher -/

/-- The state after `AddRoundKey(0)` and `r` full rounds (rule R220). -/
def aesRounds (key x : Block) : Nat → AesState
  | 0 => addRoundKey (loadBlock x) (roundKey key 0)
  | r + 1 => addRoundKey (mixColumns (shiftRows (subBytes (aesRounds key x r)))) (roundKey key (r + 1))

/-- `AES128_ENC(K, X)`: nine full rounds and a tenth without `MixColumns` (rule R220). -/
def aes128Enc (key x : Block) : Block :=
  storeBlock (addRoundKey (shiftRows (subBytes (aesRounds key x 9))) (roundKey key 10))

end Sys2Proof.Machine
end

