-- ==== Sys2Proof/Machine/Keying.lean ====
section
/-! DEFINITION. The keying-block formatter (rules R180 to R186), a pure function of its arguments. -/

namespace Sys2Proof.Machine

/-- `sc[k] = FCNT[8k+7:8k]`, least significant byte first (rule R184). -/
def fcntByte (fcnt : Word) (k : Nat) : Byte := fcnt.extractLsb' (8 * k) 8

/-- The index byte, `i mod 256`: it wraps silently (rule R182). -/
def indexByte (i : Nat) : Byte := BitVec.ofNat 8 (i % 256)

/-- The keying block `A_i` (rule R183): the address reversed (rule R185), the counter least significant byte
first (rule R184), the direction in byte 5 (rule R186), the block index in byte 15 (rule R182). -/
def keyingBlock (addr : Vector Byte 4) (fcnt : Word) (dir : BitVec 1) (i : Nat) : Block :=
  #v[0x01#8, 0x00#8, 0x00#8, 0x00#8, 0x00#8, dir.setWidth 8,
     addr[3], addr[2], addr[1], addr[0],
     fcntByte fcnt 0, fcntByte fcnt 1, fcntByte fcnt 2, fcntByte fcnt 3,
     0x00#8, indexByte i]

end Sys2Proof.Machine
end

