-- ==== Sys2Proof/Machine/Keystream.lean ====
section
/-! DEFINITION. The keystream and the XOR datapath (rules R240 to R248). -/

namespace Sys2Proof.Machine

/-- The keystream block `S_i = AES128_ENC(KEY, A_i)` (rule R240). -/
def keystreamBlock (a : Arch) (i : Nat) : Block :=
  aes128Enc a.key (keyingBlock a.addr a.fcnt a.dir i)

/-- The blocks a payload of `n` bytes uses, `ceil(n/16)` (rules R181, R241). -/
def blockCount (n : Nat) : Nat := (n + 15) / 16

/-- `S_i ++ S_(i+1) ++ …`, `m` blocks from block `i` (rule R241). -/
def keystreamBlocks (a : Arch) (i : Nat) : Nat → List Byte
  | 0 => []
  | m + 1 => (keystreamBlock a i).toList ++ keystreamBlocks a (i + 1) m

/-- The keystream of `n` bytes: `S_1 ++ … ++ S_m` cut to its first `n` bytes, `m = ceil(n/16)`; of a partial final
block the first bytes are used (rules R241, R243). -/
def keystream (a : Arch) (n : Nat) : List Byte := (keystreamBlocks a 1 (blockCount n)).take n

/-- The XOR lanes: payload byte `n` with keystream byte `n` (rules R242, R246). -/
def xorBytes (p ks : List Byte) : List Byte := List.zipWith (· ^^^ ·) p ks

end Sys2Proof.Machine
end

