-- ==== Sys2Proof/Machine/Engine.lean ====
section
/-! DEFINITION. The engine's one step, the completion of the command in flight (rules R100, R261). -/

namespace Sys2Proof.Machine

/-- `IN[0..16)`, the block of ECB (rule R265). -/
def ecbInput (a : Arch) : Block :=
  #v[a.inBuf.read 0, a.inBuf.read 1, a.inBuf.read 2, a.inBuf.read 3, a.inBuf.read 4, a.inBuf.read 5,
     a.inBuf.read 6, a.inBuf.read 7, a.inBuf.read 8, a.inBuf.read 9, a.inBuf.read 10, a.inBuf.read 11,
     a.inBuf.read 12, a.inBuf.read 13, a.inBuf.read 14, a.inBuf.read 15]

/-- The bytes a long command writes at the start of OUT (rules R242, R261, R265, R266). -/
def resultBytes (a : Arch) : LongCmd → List Byte
  | .crypt => xorBytes (a.inBuf.readBytes 0 a.plen.toNat) (keystream a a.plen.toNat)
  | .ksgen => keystream a a.plen.toNat
  | .ecb => (aes128Enc a.key (ecbInput a)).toList

/-- The result length it reports (rules R52, R261). -/
def resultLength (a : Arch) : LongCmd → BitVec 16
  | .crypt => a.plen
  | .ksgen => a.plen
  | .ecb => 16#16

/-- The result of a long command: OUT bytes it does not write keep their value (rules R261, R263). -/
def writeResult (c : LongCmd) (a : Arch) : Arch :=
  { a with outBuf := a.outBuf.writeBytes 0 (resultBytes a c), rlen := resultLength a c }

/-- `Complete()` (rule R261). -/
def complete (a : Arch) : Arch :=
  let b := match a.pending with
    | some c => writeResult c a
    | none => a
  { b with pending := none, busy := false, done := true }

/-- The engine's turn: its step is enabled exactly when `BUSY = 1`, and without it nothing happens (rules R6,
R261). -/
def engineTurn (s : State) : State :=
  if s.arch.busy then { s with arch := complete s.arch } else s

end Sys2Proof.Machine
end

