-- ==== Sys2Proof/Machine/Schedule.lean ====
section
/-! DEFINITION. What one step of the machine does: the next input of the interleaving of rules R6 and R94, one
atomic step each (rule R90). -/

namespace Sys2Proof.Machine

/-- A host transaction is decoded and executed (rules R122, R150). -/
def hostTurn (e : Encoded) (s : State) : Host.Outcome State Fault Refusal := exec (decode e) s

/-- The reset input asserted: `Reset()` as one step, and the level stays high (rule R332). -/
def assertReset (s : State) : State :=
  { s with arch := resetArch s.arch, port := { s.port with rst := true } }

/-- The reset input released (rule R332). -/
def releaseReset (s : State) : State := { s with port := { s.port with rst := false } }

/-- The access shares a byte with LKE's range, `BASE` to `BASE + 0x1FFFF` (rules R81, R82); one of no bytes shares
none. -/
def HostAccess.reachesPort (a : HostAccess) : Bool :=
  decide (0 < a.size) && decide (a.addr < Config.base + 0x20000) && decide (Config.base < a.addr + a.size)

/-- The access is one aligned 32-bit word of the range, byte address `BASE + 4w` (rules R81, R89). -/
def HostAccess.isPortWord (a : HostAccess) : Bool :=
  a.size == 4 && decide (Config.base ≤ a.addr) && (a.addr - Config.base) % 4 == 0

/-- The transaction such an access is (rule R81). -/
def HostAccess.transaction (a : HostAccess) : Encoded :=
  let widx := BitVec.ofNat 15 ((a.addr - Config.base) / 4)
  .bus (if a.we then busWrite widx a.wdata else busRead widx)

/-- A host access: outside LKE's range it makes no transaction, a single aligned word is its transaction, and
every other access to the range is refused by name (rules R81, R89). -/
def accessTurn (a : HostAccess) (s : State) : Host.Outcome State Fault Refusal :=
  if !a.reachesPort then .next s
  else if a.isPortWord then hostTurn a.transaction s
  else .refused .nonWordAccess

/-- One input (rules R6, R94, R332). -/
def inputTurn (i : Input) (s : State) : Host.Outcome State Fault Refusal :=
  match i with
  | .host e => hostTurn e s
  | .access a => accessTurn a s
  | .engine => .next (engineTurn s)
  | .rst true => .next (assertReset s)
  | .rst false => .next (releaseReset s)

/-- The input leaves the queue as it is taken. -/
def popInput (s : State) (rest : List Input) : State := { s with port := { s.port with inputs := rest } }

/-- The next input, or the engine's turn once no input is left: a command in flight is eventually completed (rule
R348), and an idle machine stays as it is (log entry 4). -/
def takeTurn (s : State) : Host.Outcome State Fault Refusal :=
  match s.port.inputs with
  | i :: rest => inputTurn i (popInput s rest)
  | [] => .next (engineTurn s)

/-- An input put before all others. -/
def pushInput (s : State) (i : Input) : State := { s with port := { s.port with inputs := i :: s.port.inputs } }

end Sys2Proof.Machine
end

