-- ==== Sys2Proof/Machine/Step.lean ====
section
/-! DEFINITION. The step, and the placing of one instruction where the step takes its next one. -/

namespace Sys2Proof.Machine

/-- One step of the machine: a host transaction, the engine's completion, or a change of the reset input (rules R6,
R94). -/
def step (s : State) : Host.Outcome State Fault Refusal := takeTurn s

/-- The instruction of an opcode-table row's word as the next input. LKE fetches nothing (rule R33): a program is the
host's transactions, and they come in through the port (log entry 3). A number that is a word of neither format is no
transaction (rule R120), and nothing is placed. -/
def State.withFetchWord (s : State) (nbits w : Nat) : State :=
  match encodedOfBits nbits w with
  | .ok e => pushInput s (.host e)
  | .error _ => s

end Sys2Proof.Machine
end

