-- ==== Sys2Proof/Machine/HostProgram.lean ====
section
/-! DEFINITION. The host's pseudo-instructions as the transactions they expand to (rules R128, R129). `WAIT` is a
loop in the host, not a transaction: here it is a number of reads of `STATUS` and the condition that ends them. -/

namespace Sys2Proof.Machine

/-- `CMD <mnemonic>` with that mnemonic's command word. -/
def cmdExpansion (c : Word) : List Instr := [.wrCmd c]

/-- `WAIT` with `n` reads of `STATUS`. -/
def waitExpansion (n : Nat) : List Instr := List.replicate n .rdStatus

/-- The value read that ends a `WAIT`: bit 0, `BUSY`, is 0. -/
def waitEnds (d : Word) : Bool := !d.getLsbD 0

/-- `RUN <mnemonic>`: `CMD`, then `WAIT`. -/
def runExpansion (c : Word) (n : Nat) : List Instr := cmdExpansion c ++ waitExpansion n

/-- `LDKEY`: `CLRKEY`, then the key's bytes in order. -/
def ldkeyExpansion (k : Block) : List Instr :=
  cmdExpansion 0x00000004#32 ++ k.toList.map fun b => .wrKeyPush (b.setWidth 32)

/-- `LDADDR`: `CLRADDR`, then the address bytes as presented. -/
def ldaddrExpansion (a : Vector Byte 4) : List Instr :=
  cmdExpansion 0x00000005#32 ++ a.toList.map fun b => .wrAddrPush (b.setWidth 32)

/-- The words of `LDIN` from word `k` on, missing bytes taken as 0. DESIGN CHOICE (log entry 14): rule R129 bounds no
length, and the IN window ends at word `0x1FFF` (rule R83); from byte 32768 on the word number is taken modulo 2^13,
so it starts again at word 0. -/
def ldinFrom (bs : List Byte) (k : Nat) : Nat → List Instr
  | 0 => []
  | n + 1 =>
    .wrIn (BitVec.ofNat 13 k)
      (wordOfLanes (bs.getD (4 * k) 0x00#8) (bs.getD (4 * k + 1) 0x00#8) (bs.getD (4 * k + 2) 0x00#8)
        (bs.getD (4 * k + 3) 0x00#8))
      :: ldinFrom bs (k + 1) n

/-- `LDIN`: the words that hold the bytes, `ceil(m/4)` of them. -/
def ldinExpansion (bs : List Byte) : List Instr := ldinFrom bs 0 ((bs.length + 3) / 4)

/-- The reads of `RDOUT` from word `k` on. DESIGN CHOICE (log entry 14): rule R129 bounds no length, and the OUT window
ends at word `0x1FFF` (rule R84); from byte 32768 on the word number is taken modulo 2^13. -/
def rdoutFrom (k : Nat) : Nat → List Instr
  | 0 => []
  | n + 1 => .rdOut (BitVec.ofNat 13 k) :: rdoutFrom (k + 1) n

/-- `RDOUT m`: the words that hold the first `m` bytes of OUT. -/
def rdoutExpansion (m : Nat) : List Instr := rdoutFrom 0 ((m + 3) / 4)

/-- Instructions as inputs of the port. -/
def asInputs (is : List Instr) : List Input := is.map fun i => .host (encode i)

end Sys2Proof.Machine
end

