-- ==== Sys2Proof/Safety.lean ====
section
/-! DEFINITION. The terms the statements use: what a step runs, when a write takes effect, the invariant of rule R60,
and the end and result of a run (rule R349). -/

namespace Sys2Proof.Machine

/-- The state after a read that returned `d`: the port's record grows by that word, and that is all. -/
def State.answered (s : State) (d : Word) : State :=
  { s with port := { s.port with reads := s.port.reads ++ [d] } }

/-- The state with another architectural state. -/
def State.withArch (s : State) (a : Arch) : State := { s with arch := a }

/-- A host write takes effect: LKE is idle and not held in reset (rules R150, R332). -/
abbrev State.acceptsWrites (s : State) : Prop := s.port.rst = false ∧ s.arch.busy = false

/-- The operands CRYPT and KSGEN check (rule R301). -/
abbrev State.payloadLoaded (s : State) : Prop :=
  s.arch.keyCnt = 16 ∧ s.arch.addrCnt = 4 ∧ s.arch.plen.toNat ≤ s.cfg.bufBytes

/-- The instruction the next step runs, if its input is a transaction. -/
def State.nextInstr (s : State) : Option Instr :=
  match s.port.inputs with
  | .host e :: _ => some (decode e)
  | .access a :: _ => if a.reachesPort && a.isPortWord then some (decode a.transaction) else none
  | _ => none

/-- The next step asserts the reset input (rule R332). -/
def State.nextAssertsReset (s : State) : Bool :=
  match s.port.inputs with
  | .rst true :: _ => true
  | _ => false

/-- The next step is the engine's turn: the scheduler gives it, or no input is left (rules R6, R348). -/
def State.nextIsEngine (s : State) : Bool :=
  match s.port.inputs with
  | [] => true
  | .engine :: _ => true
  | _ => false

/-- The invariants of rule R60, with what a checked command in flight and a canonical buffer mean. The fourth bullet
of R60 speaks of a host write in the past; it is a statement about steps, not part of this predicate. -/
structure State.Inv (s : State) : Prop where
  busy_pending : s.arch.busy = true ↔ s.arch.pending ≠ none
  busy_quiet : s.arch.busy = true →
    s.arch.done = false ∧ s.arch.err = false ∧ s.arch.errcode = .none ∧ s.arch.rlen = 0#16
  err_code : s.arch.err = false ↔ s.arch.errcode = .none
  key_tail : ∀ (j : Nat) (h : j < 16), s.arch.keyCnt.val ≤ j → s.arch.key[j] = 0x00#8
  addr_tail : ∀ (j : Nat) (h : j < 4), s.arch.addrCnt.val ≤ j → s.arch.addr[j] = 0x00#8
  in_canonical : s.arch.inBuf.wf = true
  out_canonical : s.arch.outBuf.wf = true
  in_within : s.arch.inBuf.within s.cfg.bufBytes = true
  out_within : s.arch.outBuf.within s.cfg.bufBytes = true
  pending_key : s.arch.pending ≠ none → s.arch.keyCnt = 16
  pending_payload : s.arch.pending = some .crypt ∨ s.arch.pending = some .ksgen →
    s.arch.addrCnt = 4 ∧ s.arch.plen.toNat ≤ s.cfg.bufBytes
  held_reset : s.port.rst = true → s.arch = Arch.reset

/-- The input is part of the host's program and waits for the port: a transaction, a command word, or an access to
LKE's range. An access that is not one aligned word counts, since what transaction it makes is the platform's (rule
R89). A turn of the engine, a level of the reset input and an access elsewhere are no transactions (rules R80, R81). -/
def Input.awaitsPort : Input → Bool
  | .host _ => true
  | .access a => a.reachesPort
  | .engine => false
  | .rst _ => false

/-- A run is over: the program's last transaction has taken effect and no command is in flight, whatever turns of the
engine and levels of the reset input are still to come (rule R349). -/
def State.runOver (s : State) : Bool := s.port.inputs.all (fun i => !i.awaitsPort) && s.arch.pending.isNone

/-- The observable result of a run (rule R349): nothing of `KEY` and `ADDR`, nothing of time. -/
structure Observation where
  status : Word
  rlen : BitVec 16
  outBuf : Memory
  inBuf : Memory
  keyCnt : Fin 18
  addrCnt : Fin 6
  fcnt : Word
  dir : BitVec 1
  plen : BitVec 16
  reads : List Word
  deriving DecidableEq, Repr

/-- What a state shows of the run that led to it. -/
def State.observe (s : State) : Observation where
  status := statusWord s.arch
  rlen := s.arch.rlen
  outBuf := s.arch.outBuf
  inBuf := s.arch.inBuf
  keyCnt := s.arch.keyCnt
  addrCnt := s.arch.addrCnt
  fcnt := s.arch.fcnt
  dir := s.arch.dir
  plen := s.arch.plen
  reads := s.port.reads

end Sys2Proof.Machine
end

