-- ==== Sys2Proof/Certificates/Slice0/Obligations.lean ====
section
/-! DEFINITION. The statements for the provers. Each docstring names the rule of spec/ it formalises. -/

open Sys2Proof Sys2Proof.Machine

/-! ## Encoding -/

/-- Decoding the encoding of every well-formed instruction gives it back, with every operand at every value
(rules R121, R122, R123, R125). -/
def Obligations.DecodeInvertsEncode : Prop :=
  ∀ i : Instr, i.wellFormed = true → decode (encode i) = i

/-- Every word of both formats decodes to a well-formed instruction, and encoding that gives the word back, but for
the `wdata` of a read, which must be 0 and is ignored (rules R121, R122, R126). -/
def Obligations.EncodeInvertsDecode : Prop :=
  (∀ w : BitVec 48, (decode (.bus w)).wellFormed = true ∧
    encode (decode (.bus w)) = .bus (if w.getLsbD 47 then w else w &&& 0xFFFF00000000#48)) ∧
  (∀ c : Word, (decode (.cmd c)).wellFormed = true ∧ encode (decode (.cmd c)) = .cmd c)

/-- The instruction the decoder reads stands for the opcode-table row the word matches, and that row has the word's
format (rule R122 and spec/opcode_table.json). -/
def Obligations.DecodedRowMatchesTheWord : Prop :=
  ∀ e : Encoded, (opcodeRow (decode e)).nbits = e.nbits ∧
    e.bits &&& (opcodeRow (decode e)).mask = (opcodeRow (decode e)).word

/-- A word written to the `CMD32` decoder is a command only if it is one of the seven words exactly, `RSV = 0`
included (rules R123, R126). -/
def Obligations.OnlySevenWordsAreCommands : Prop :=
  ∀ c : Word, (c ∉ legalCommandWords ↔ decodeCmd32 c = .illegal c) ∧
    (c.extractLsb' 8 24 ≠ 0#24 → decodeCmd32 c = .illegal c)

/-- The eight lines of rule R130 have the words it gives and those words decode to them; the seven command words of
rule R125 decode to their commands. -/
def Obligations.EncodingExamplesDecode : Prop :=
  encode (.wrCmd 0x00000001#32) = .bus 0x800100000001#48 ∧
  encode (.wrCmd 0x0000000F#32) = .bus 0x80010000000F#48 ∧
  encode (.wrKeyPush 0x000000AA#32) = .bus 0x8004000000AA#48 ∧
  encode (.wrFcnt 0x00000001#32) = .bus 0x800800000001#48 ∧
  encode (.wrPlen 0x00000010#32) = .bus 0x800A00000010#48 ∧
  encode (.wrIn 1#13 0x77665544#32) = .bus 0xA00177665544#48 ∧
  encode .rdStatus = .bus 0x000200000000#48 ∧
  encode (.rdOut 0#13) = .bus 0x400000000000#48 ∧
  decode (.bus 0x800100000001#48) = .wrCmd 0x00000001#32 ∧
  decode (.bus 0x80010000000F#48) = .wrCmd 0x0000000F#32 ∧
  decode (.bus 0x8004000000AA#48) = .wrKeyPush 0x000000AA#32 ∧
  decode (.bus 0x800800000001#48) = .wrFcnt 0x00000001#32 ∧
  decode (.bus 0x800A00000010#48) = .wrPlen 0x00000010#32 ∧
  decode (.bus 0xA00177665544#48) = .wrIn 1#13 0x77665544#32 ∧
  decode (.bus 0x000200000000#48) = .rdStatus ∧
  decode (.bus 0x400000000000#48) = .rdOut 0#13 ∧
  decode (.cmd 0x00000000#32) = .nop ∧ decode (.cmd 0x00000001#32) = .crypt ∧
  decode (.cmd 0x00000002#32) = .ecb ∧ decode (.cmd 0x00000003#32) = .ksgen ∧
  decode (.cmd 0x00000004#32) = .clrkey ∧ decode (.cmd 0x00000005#32) = .clraddr ∧
  decode (.cmd 0x0000000F#32) = .srst

/-! ## The step -/

/-- A step whose next input is a host transaction executes the decoded instruction at the state without that input
(rules R122, R150); a word placed by `withFetchWord` is the next input. The queue of inputs is the model's choice (log
entry 3). -/
def Obligations.StepRunsTheDecodedTransaction : Prop :=
  (∀ (s : State) (e : Encoded) (rest : List Input), s.port.inputs = .host e :: rest →
    step s = exec (decode e) { s with port := { s.port with inputs := rest } }) ∧
  (∀ (s : State) (nbits w : Nat) (i : Instr), decodeTableWord nbits w = some i →
    step (s.withFetchWord nbits w) = exec i s)

/-- Every transaction completes: a read returns one word, a write returns none, and neither touches the inputs to
come, the reset input or the parameter (rules R80, R93). The record of the words read is the model's choice (log entry
5). -/
def Obligations.EveryTransactionCompletes : Prop :=
  ∀ (i : Instr) (s : State), ∃ t, exec i s = .next t ∧ t.cfg = s.cfg ∧ t.port.inputs = s.port.inputs ∧
    t.port.rst = s.port.rst ∧
    (i.isRead = true → ∃ d, t.port.reads = s.port.reads ++ [d]) ∧
    (i.isRead = false → t.port.reads = s.port.reads)

/-- No step is a fault, and the only step that is refused is a host access to LKE's range that is not one aligned
word (93_implementation_defined.md; rule R89). -/
def Obligations.OnlyNonWordAccessesStop : Prop :=
  ∀ s : State, (∃ t, step s = .next t) ∨
    (step s = .refused .nonWordAccess ∧ ∃ a rest, s.port.inputs = .access a :: rest ∧
      a.reachesPort = true ∧ a.isPortWord = false)

/-- The aligned word access at byte address `BASE + 4w` is the transaction at word index `w` (rule R81); an access
that shares a byte with the range, from inside it or from below, and is not one aligned word of it is refused by name
(rule R89); one that shares no byte with it makes no transaction, whatever `BASE` is (the model's reading of rule R81,
log entry 2). -/
def Obligations.HostAccessesReachThePortAsWords : Prop :=
  (∀ (s : State) (rest : List Input) (w : BitVec 15) (we : Bool) (d : Word),
    s.port.inputs = .access ⟨we, Config.base + 4 * w.toNat, 4, d⟩ :: rest →
    step s = exec (if we then decodeWrite w d else decodeRead w)
      { s with port := { s.port with inputs := rest } }) ∧
  (∀ (s : State) (rest : List Input) (addr size : Nat) (we : Bool) (d : Word),
    s.port.inputs = .access ⟨we, addr, size, d⟩ :: rest →
    (0 < size → addr < Config.base + 0x20000 → Config.base < addr + size →
      size ≠ 4 ∨ addr < Config.base ∨ (addr - Config.base) % 4 ≠ 0 → step s = .refused .nonWordAccess) ∧
    (size = 0 ∨ addr + size ≤ Config.base ∨ Config.base + 0x20000 ≤ addr →
      step s = .next { s with port := { s.port with inputs := rest } }))

/-- `BUF_BYTES` is a constant of the machine: no step changes it (rule R53). That the machine carries it in its state is the
model's choice (log entry 1). -/
def Obligations.ParameterNeverChanges : Prop :=
  ∀ s t : State, step s = .next t → t.cfg = s.cfg

/-! ## Reset -/

/-- `Reset()` sets every element to its reset value in one step; the reset input and SRST both run it; `irq` is then
0 and the constants are unaffected (rule R330). -/
def Obligations.ResetSetsEveryElement : Prop :=
  (∀ (j : Nat) (h : j < 16), State.reset.arch.key[j] = 0x00#8) ∧ State.reset.arch.keyCnt = 0 ∧
  (∀ (j : Nat) (h : j < 4), State.reset.arch.addr[j] = 0x00#8) ∧ State.reset.arch.addrCnt = 0 ∧
  State.reset.arch.fcnt = 0x00000000#32 ∧ State.reset.arch.dir = 0#1 ∧ State.reset.arch.plen = 0#16 ∧
  State.reset.arch.rlen = 0#16 ∧ State.reset.arch.ie = false ∧ State.reset.arch.busy = false ∧
  State.reset.arch.done = false ∧ State.reset.arch.err = false ∧ State.reset.arch.accerr = false ∧
  State.reset.arch.errcode = .none ∧ statusWord State.reset.arch = 0x00000000#32 ∧
  State.reset.arch.pending = none ∧
  (∀ n, State.reset.arch.inBuf.read n = 0x00#8 ∧ State.reset.arch.outBuf.read n = 0x00#8) ∧
  State.reset.irq = false ∧
  (∀ (s : State) (rest : List Input), s.port.inputs = .rst true :: rest →
    ∃ t, step s = .next t ∧ t.arch = State.reset.arch ∧ t.cfg = s.cfg ∧ t.irq = false) ∧
  (∀ s : State, s.port.rst = false →
    ∃ t, exec .srst s = .next t ∧ t.arch = State.reset.arch ∧ t.cfg = s.cfg ∧ t.irq = false)

/-- SRST takes effect busy or idle: every element takes its reset value, so every flag is 0, `ACCERR` included, and no
interrupt is raised; the port stays as it is. It is the only write that takes effect while busy: every other is
discarded with `ACCERR` (rules R269, R333). -/
def Obligations.SoftResetTakesEffectEvenWhileBusy : Prop :=
  ∀ s : State, s.port.rst = false →
    exec .srst s = .next (s.withArch State.reset.arch) ∧
    exec (.wrCmd 0x0000000F#32) s = .next (s.withArch State.reset.arch) ∧
    (s.withArch State.reset.arch).irq = false ∧
    (∀ i : Instr, s.arch.busy = true → i.isRead = false → i.isSoftReset = false →
      exec i s = .next (s.withArch { s.arch with accerr := true }))

/-- While the reset input is asserted no transaction takes effect: a write is discarded without `ACCERR` and a read
returns 0; asserting it runs `Reset()` as one step (rule R332). That asserting it while it is asserted does so again, and
that releasing it changes nothing else, is the model's choice (log entry 8), as are the inputs the level's changes come
in as (log entry 3). -/
def Obligations.ResetInputHoldsTheMachine : Prop :=
  (∀ (s : State) (rest : List Input), s.port.inputs = .rst true :: rest →
    step s = .next ⟨s.cfg, State.reset.arch, ⟨true, rest, s.port.reads⟩⟩) ∧
  (∀ (s : State) (rest : List Input), s.port.inputs = .rst false :: rest →
    step s = .next ⟨s.cfg, s.arch, ⟨false, rest, s.port.reads⟩⟩) ∧
  (∀ (i : Instr) (s : State), s.port.rst = true →
    exec i s = .next (if i.isRead then s.answered 0x00000000#32 else s))

/-! ## Invariants -/

/-- The invariant holds right after reset (rule R60). -/
def Obligations.InvariantHoldsAtReset : Prop := State.reset.Inv

/-- Every step keeps the invariant: the bullets of rule R60, canonical buffers inside `BUF_BYTES`, the operands of a
command in flight, and the reset input holding the machine in reset. -/
def Obligations.EveryStepKeepsTheInvariant : Prop :=
  ∀ s t : State, s.Inv → step s = .next t → t.Inv

/-- `ERR = 1` implies `DONE = 1` unless the host clears `DONE` alone: the only step that ends it is a write of
`STATUS` with bit 1 set and bit 2 clear while idle (rule R60, fourth bullet). -/
def Obligations.ErrImpliesDoneUntilDoneIsClearedAlone : Prop :=
  ∀ s t : State, s.Inv → step s = .next t → (s.arch.err = true → s.arch.done = true) →
    t.arch.err = true → t.arch.done = false →
    ∃ d : Word, s.nextInstr = some (.wrStatus d) ∧ d.getLsbD 1 = true ∧ d.getLsbD 2 = false ∧
      s.arch.busy = false

/-! ## Reads -/

/-- What each register read returns, busy or not (rules R151 to R155, R160, R161, R164, R166, R168, R169); nothing but
the port's record changes. -/
def Obligations.RegisterReadsReturnTheirValue : Prop :=
  ∀ s : State, s.port.rst = false →
    exec .rdId s = .next (s.answered 0x41455331#32) ∧
    exec .rdCmd s = .next (s.answered 0x00000000#32) ∧
    exec .rdStatus s = .next (s.answered ((s.arch.errcode.code ++ BitVec.ofBool s.arch.accerr
      ++ BitVec.ofBool s.arch.err ++ BitVec.ofBool s.arch.done ++ BitVec.ofBool s.arch.busy).setWidth 32)) ∧
    exec .rdInten s = .next (s.answered (if s.arch.ie then 1#32 else 0#32)) ∧
    exec .rdKeyPush s = .next (s.answered 0x00000000#32) ∧
    exec .rdKeyCnt s = .next (s.answered (BitVec.ofNat 32 s.arch.keyCnt.val)) ∧
    exec .rdAddrPush s = .next (s.answered 0x00000000#32) ∧
    exec .rdAddrCnt s = .next (s.answered (BitVec.ofNat 32 s.arch.addrCnt.val)) ∧
    exec .rdFcnt s = .next (s.answered s.arch.fcnt) ∧
    exec .rdDir s = .next (s.answered (s.arch.dir.setWidth 32)) ∧
    exec .rdPlen s = .next (s.answered (s.arch.plen.setWidth 32)) ∧
    exec .rdRlen s = .next (s.answered (s.arch.rlen.setWidth 32)) ∧
    exec .rdBufsz s = .next (s.answered (BitVec.ofNat 32 s.cfg.bufBytes))

/-- Every reserved word reads 0 and nothing else happens (rule R173). -/
def Obligations.ReservedWordsReadZero : Prop :=
  ∀ s : State, s.port.rst = false →
    exec .rdRsv000D s = .next (s.answered 0x00000000#32) ∧
    (∀ o : BitVec 1, exec (.rdRsv000E o) s = .next (s.answered 0x00000000#32)) ∧
    (∀ o : BitVec 4, exec (.rdRsv0010 o) s = .next (s.answered 0x00000000#32)) ∧
    (∀ o : BitVec 5, exec (.rdRsv0020 o) s = .next (s.answered 0x00000000#32)) ∧
    (∀ o : BitVec 6, exec (.rdRsv0040 o) s = .next (s.answered 0x00000000#32)) ∧
    (∀ o : BitVec 7, exec (.rdRsv0080 o) s = .next (s.answered 0x00000000#32)) ∧
    (∀ o : BitVec 8, exec (.rdRsv0100 o) s = .next (s.answered 0x00000000#32)) ∧
    (∀ o : BitVec 9, exec (.rdRsv0200 o) s = .next (s.answered 0x00000000#32)) ∧
    (∀ o : BitVec 10, exec (.rdRsv0400 o) s = .next (s.answered 0x00000000#32)) ∧
    (∀ o : BitVec 11, exec (.rdRsv0800 o) s = .next (s.answered 0x00000000#32)) ∧
    (∀ o : BitVec 12, exec (.rdRsv1000 o) s = .next (s.answered 0x00000000#32)) ∧
    (∀ o : BitVec 13, exec (.rdRsv6000 o) s = .next (s.answered 0x00000000#32))

/-- An IN word reads its four bytes, the lowest in bits [7:0], also while busy, and 0 at or beyond `BUF_BYTES` (rule
R170). -/
def Obligations.InWindowReadsItsBytes : Prop :=
  ∀ (s : State) (k : BitVec 13), s.port.rst = false →
    exec (.rdIn k) s = .next (s.answered
      (if 4 * k.toNat < s.cfg.bufBytes then
        s.arch.inBuf.read (4 * k.toNat + 3) ++ s.arch.inBuf.read (4 * k.toNat + 2)
          ++ s.arch.inBuf.read (4 * k.toNat + 1) ++ s.arch.inBuf.read (4 * k.toNat)
      else 0x00000000#32))

/-- An OUT word reads its four bytes while idle; while busy, and at or beyond `BUF_BYTES`, it reads 0 (rule R163). -/
def Obligations.OutWindowReadsItsBytesOnlyWhileIdle : Prop :=
  ∀ (s : State) (k : BitVec 13), s.port.rst = false →
    exec (.rdOut k) s = .next (s.answered
      (if s.cfg.bufBytes ≤ 4 * k.toNat ∨ s.arch.busy = true then 0x00000000#32
      else
        s.arch.outBuf.read (4 * k.toNat + 3) ++ s.arch.outBuf.read (4 * k.toNat + 2)
          ++ s.arch.outBuf.read (4 * k.toNat + 1) ++ s.arch.outBuf.read (4 * k.toNat)))

/-- The frame of all 27 reads: a read changes nothing but the port's record, and repeating it at once returns the
same word again (rule R91, reads). -/
def Obligations.ReadsChangeNothingAndRepeat : Prop :=
  ∀ (i : Instr) (s : State), i.isRead = true →
    ∃ d, exec i s = .next (s.answered d) ∧ exec i (s.answered d) = .next ((s.answered d).answered d)

/-- `KEY` and `ADDR` are never readable: two states that differ in nothing else answer every transaction alike and
still differ in nothing else (rules R43, R46, R310). -/
def Obligations.KeyAndAddressAreNeverReadable : Prop :=
  ∀ (i : Instr) (s : State) (key : Vector Byte 16) (addr : Vector Byte 4),
    ∃ t key' addr', exec i s = .next t ∧
      exec i (s.withArch { s.arch with key := key, addr := addr }) =
        .next (t.withArch { t.arch with key := key', addr := addr' })

/-! ## Writes -/

/-- A write of a read-only register, of the OUT window or of a reserved word has no effect while idle, and sets
`ACCERR` while busy like every write (rule R172). -/
def Obligations.IgnoredWritesChangeNothing : Prop :=
  (∀ s : State, s.acceptsWrites →
    (∀ d : Word, exec (.wrId d) s = .next s) ∧
    (∀ d : Word, exec (.wrKeyCnt d) s = .next s) ∧
    (∀ d : Word, exec (.wrAddrCnt d) s = .next s) ∧
    (∀ d : Word, exec (.wrRlen d) s = .next s) ∧
    (∀ d : Word, exec (.wrBufsz d) s = .next s) ∧
    (∀ d : Word, exec (.wrRsv000D d) s = .next s) ∧
    (∀ o : BitVec 1, ∀ d : Word, exec (.wrRsv000E o d) s = .next s) ∧
    (∀ o : BitVec 4, ∀ d : Word, exec (.wrRsv0010 o d) s = .next s) ∧
    (∀ o : BitVec 5, ∀ d : Word, exec (.wrRsv0020 o d) s = .next s) ∧
    (∀ o : BitVec 6, ∀ d : Word, exec (.wrRsv0040 o d) s = .next s) ∧
    (∀ o : BitVec 7, ∀ d : Word, exec (.wrRsv0080 o d) s = .next s) ∧
    (∀ o : BitVec 8, ∀ d : Word, exec (.wrRsv0100 o d) s = .next s) ∧
    (∀ o : BitVec 9, ∀ d : Word, exec (.wrRsv0200 o d) s = .next s) ∧
    (∀ o : BitVec 10, ∀ d : Word, exec (.wrRsv0400 o d) s = .next s) ∧
    (∀ o : BitVec 11, ∀ d : Word, exec (.wrRsv0800 o d) s = .next s) ∧
    (∀ o : BitVec 12, ∀ d : Word, exec (.wrRsv1000 o d) s = .next s) ∧
    (∀ k : BitVec 13, ∀ d : Word, exec (.wrOut k d) s = .next s) ∧
    (∀ o : BitVec 13, ∀ d : Word, exec (.wrRsv6000 o d) s = .next s)) ∧
  (∀ s : State, s.port.rst = false → s.arch.busy = true →
    (∀ d : Word, exec (.wrId d) s = .next (s.withArch { s.arch with accerr := true })) ∧
    (∀ d : Word, exec (.wrKeyCnt d) s = .next (s.withArch { s.arch with accerr := true })) ∧
    (∀ d : Word, exec (.wrAddrCnt d) s = .next (s.withArch { s.arch with accerr := true })) ∧
    (∀ d : Word, exec (.wrRlen d) s = .next (s.withArch { s.arch with accerr := true })) ∧
    (∀ d : Word, exec (.wrBufsz d) s = .next (s.withArch { s.arch with accerr := true })) ∧
    (∀ d : Word, exec (.wrRsv000D d) s = .next (s.withArch { s.arch with accerr := true })) ∧
    (∀ o : BitVec 1, ∀ d : Word, exec (.wrRsv000E o d) s = .next (s.withArch { s.arch with accerr := true })) ∧
    (∀ o : BitVec 4, ∀ d : Word, exec (.wrRsv0010 o d) s = .next (s.withArch { s.arch with accerr := true })) ∧
    (∀ o : BitVec 5, ∀ d : Word, exec (.wrRsv0020 o d) s = .next (s.withArch { s.arch with accerr := true })) ∧
    (∀ o : BitVec 6, ∀ d : Word, exec (.wrRsv0040 o d) s = .next (s.withArch { s.arch with accerr := true })) ∧
    (∀ o : BitVec 7, ∀ d : Word, exec (.wrRsv0080 o d) s = .next (s.withArch { s.arch with accerr := true })) ∧
    (∀ o : BitVec 8, ∀ d : Word, exec (.wrRsv0100 o d) s = .next (s.withArch { s.arch with accerr := true })) ∧
    (∀ o : BitVec 9, ∀ d : Word, exec (.wrRsv0200 o d) s = .next (s.withArch { s.arch with accerr := true })) ∧
    (∀ o : BitVec 10, ∀ d : Word, exec (.wrRsv0400 o d) s = .next (s.withArch { s.arch with accerr := true })) ∧
    (∀ o : BitVec 11, ∀ d : Word, exec (.wrRsv0800 o d) s = .next (s.withArch { s.arch with accerr := true })) ∧
    (∀ o : BitVec 12, ∀ d : Word, exec (.wrRsv1000 o d) s = .next (s.withArch { s.arch with accerr := true })) ∧
    (∀ k : BitVec 13, ∀ d : Word, exec (.wrOut k d) s = .next (s.withArch { s.arch with accerr := true })) ∧
    (∀ o : BitVec 13, ∀ d : Word, exec (.wrRsv6000 o d) s = .next (s.withArch { s.arch with accerr := true })))

/-- `WR STATUS` clears the flags its bits 1, 2 and 3 select, sets none and ignores its other bits; every other element
is unchanged. While busy it clears nothing and sets `ACCERR` (rule R156). -/
def Obligations.StatusWriteClearsSelectedFlags : Prop :=
  (∀ (s : State) (d : Word), s.port.rst = false → s.arch.busy = true →
    exec (.wrStatus d) s = .next (s.withArch { s.arch with accerr := true })) ∧
  ∀ (s : State) (d : Word), s.acceptsWrites →
    exec (.wrStatus d) s = .next (s.withArch { s.arch with
      done := if d.getLsbD 1 then false else s.arch.done
      err := if d.getLsbD 2 then false else s.arch.err
      errcode := if d.getLsbD 2 then .none else s.arch.errcode
      accerr := if d.getLsbD 3 then false else s.arch.accerr })

/-- `WR INTEN`, `WR FCNT`, `WR DIR` and `WR PLEN` store their field of `wdata` and change nothing else (rules R157,
R162, R165, R167). -/
def Obligations.OperandWritesStoreTheirField : Prop :=
  ∀ (s : State) (d : Word), s.acceptsWrites →
    exec (.wrInten d) s = .next (s.withArch { s.arch with ie := d.getLsbD 0 }) ∧
    exec (.wrFcnt d) s = .next (s.withArch { s.arch with fcnt := d }) ∧
    exec (.wrDir d) s = .next (s.withArch { s.arch with dir := d.extractLsb' 0 1 }) ∧
    exec (.wrPlen d) s = .next (s.withArch { s.arch with plen := d.extractLsb' 0 16 })

/-- What a write stores a read returns, reserved bits as 0 (rules R40, R83, R157, R161, R164, R166). -/
def Obligations.WrittenFieldsReadBack : Prop :=
  ∀ (s : State) (d : Word) (k : BitVec 13), s.acceptsWrites → s.arch.inBuf.wf = true →
    (∃ t, exec (.wrInten d) s = .next t ∧ exec .rdInten t = .next (t.answered (d &&& 0x00000001#32))) ∧
    (∃ t, exec (.wrFcnt d) s = .next t ∧ exec .rdFcnt t = .next (t.answered d)) ∧
    (∃ t, exec (.wrDir d) s = .next t ∧ exec .rdDir t = .next (t.answered (d &&& 0x00000001#32))) ∧
    (∃ t, exec (.wrPlen d) s = .next t ∧ exec .rdPlen t = .next (t.answered (d &&& 0x0000FFFF#32))) ∧
    (∃ t, exec (.wrIn k d) s = .next t ∧ exec (.rdIn k) t =
      .next (t.answered (if 4 * k.toNat < s.cfg.bufBytes then d else 0x00000000#32)))

/-- `WR KEY_PUSH` appends `wdata[7:0]` to `KEY` while fewer than 16 bytes are held, and afterwards only sets `KEY_CNT`
to 17; no other element changes (rule R158). -/
def Obligations.KeyPushAppendsOneByte : Prop :=
  ∀ (s : State) (d : Word), s.acceptsWrites →
    ∃ t, exec (.wrKeyPush d) s = .next t ∧
      t = s.withArch { s.arch with key := t.arch.key, keyCnt := t.arch.keyCnt } ∧
      (s.arch.keyCnt.val < 16 → t.arch.keyCnt.val = s.arch.keyCnt.val + 1) ∧
      (16 ≤ s.arch.keyCnt.val → t.arch.keyCnt.val = 17) ∧
      (∀ (j : Nat) (h : j < 16), t.arch.key[j] =
        if j = s.arch.keyCnt.val then d.extractLsb' 0 8 else s.arch.key[j])

/-- `WR ADDR_PUSH` appends `wdata[7:0]` to `ADDR` while fewer than 4 bytes are held, and afterwards only sets
`ADDR_CNT` to 5; no other element changes (rule R159). -/
def Obligations.AddressPushAppendsOneByte : Prop :=
  ∀ (s : State) (d : Word), s.acceptsWrites →
    ∃ t, exec (.wrAddrPush d) s = .next t ∧
      t = s.withArch { s.arch with addr := t.arch.addr, addrCnt := t.arch.addrCnt } ∧
      (s.arch.addrCnt.val < 4 → t.arch.addrCnt.val = s.arch.addrCnt.val + 1) ∧
      (4 ≤ s.arch.addrCnt.val → t.arch.addrCnt.val = 5) ∧
      (∀ (j : Nat) (h : j < 4), t.arch.addr[j] =
        if j = s.arch.addrCnt.val then d.extractLsb' 0 8 else s.arch.addr[j])

/-- `WR IN+4k` sets `IN[4k+j]` to byte lane `j` of `wdata` for j = 0..3 when `4k < BUF_BYTES` and has no effect
otherwise; every other byte of IN and every other element is unchanged (rule R171). -/
def Obligations.InWriteStoresFourLanes : Prop :=
  ∀ (s : State) (k : BitVec 13) (d : Word), s.acceptsWrites → s.arch.inBuf.wf = true →
    ∃ t, exec (.wrIn k d) s = .next t ∧
      t = s.withArch { s.arch with inBuf := t.arch.inBuf } ∧
      (4 * k.toNat < s.cfg.bufBytes →
        (∀ j : Nat, j < 4 → t.arch.inBuf.read (4 * k.toNat + j) = d.extractLsb' (8 * j) 8) ∧
        (∀ n : Nat, n < 4 * k.toNat ∨ 4 * k.toNat + 4 ≤ n → t.arch.inBuf.read n = s.arch.inBuf.read n)) ∧
      (s.cfg.bufBytes ≤ 4 * k.toNat → t = s)

/-- A write that arrives while busy, other than the SRST word to `CMD`, is discarded and sets `ACCERR`: it touches no
other element and leaves the command in flight as it is (rule R303). -/
def Obligations.WritesWhileBusyOnlySetAccerr : Prop :=
  ∀ (i : Instr) (s : State), s.port.rst = false → s.arch.busy = true →
    i.isRead = false → i.isSoftReset = false →
    exec i s = .next (s.withArch { s.arch with accerr := true })

/-! ## Commands -/

/-- A write of a word to `CMD` does what the command of that word does, busy or idle (rules R174, R260); it completes
and leaves the port and the parameter as they are. -/
def Obligations.CmdWriteRunsTheCommandWord : Prop :=
  ∀ (c : Word) (s : State), ∃ t, exec (.wrCmd c) s = .next t ∧ exec (decodeCmd32 c) s = .next t ∧
    t.cfg = s.cfg ∧ t.port = s.port

/-- NOP leaves every element unchanged; while busy it is discarded with `ACCERR` (rule R270). -/
def Obligations.NopChangesNothing : Prop :=
  (∀ s : State, s.acceptsWrites → exec .nop s = .next s ∧ exec (.wrCmd 0x00000000#32) s = .next s) ∧
  (∀ s : State, s.port.rst = false → s.arch.busy = true →
    exec .nop s = .next (s.withArch { s.arch with accerr := true }))

/-- CLRKEY zeroes `KEY` and `KEY_CNT`, CLRADDR `ADDR` and `ADDR_CNT`; each ends with `DONE` set, `ERR`, `ERRCODE` and
`RLEN` clear, and touches no other element (rules R267, R268). -/
def Obligations.ClearCommandsZeroTheirOperand : Prop :=
  ∀ s : State, s.acceptsWrites →
    exec .clrkey s = .next (s.withArch { s.arch with
      key := Vector.replicate 16 0x00#8, keyCnt := 0, rlen := 0#16, done := true, err := false,
      errcode := .none }) ∧
    exec .clraddr s = .next (s.withArch { s.arch with
      addr := Vector.replicate 4 0x00#8, addrCnt := 0, rlen := 0#16, done := true, err := false,
      errcode := .none })

/-- A command word that rule R125 does not list fails with code 1: only `STATUS` and `RLEN` change (rule R271). -/
def Obligations.IllegalWordsFailWithCodeOne : Prop :=
  ∀ (s : State) (c : Word), s.acceptsWrites → c ∉ legalCommandWords →
    exec (.illegal c) s = .next (s.withArch { s.arch with
      rlen := 0#16, done := true, err := true, errcode := .illegalCmd }) ∧
    exec (.wrCmd c) s = .next (s.withArch { s.arch with
      rlen := 0#16, done := true, err := true, errcode := .illegalCmd }) ∧
    ErrCode.illegalCmd.code = 1#4

/-- A long command that passes its checks sets `PENDING` and `BUSY` and clears `DONE`, `ERR`, `ERRCODE` and `RLEN`;
ECB checks the key alone (issue in rules R264, R265, R266). -/
def Obligations.CheckedLongCommandsStart : Prop :=
  ∀ s : State, s.acceptsWrites → s.arch.keyCnt = 16 →
    exec .ecb s = .next (s.withArch { s.arch with
      rlen := 0#16, done := false, err := false, errcode := .none, pending := some .ecb, busy := true }) ∧
    (s.payloadLoaded →
      exec .crypt s = .next (s.withArch { s.arch with
        rlen := 0#16, done := false, err := false, errcode := .none, pending := some .crypt, busy := true }) ∧
      exec .ksgen s = .next (s.withArch { s.arch with
        rlen := 0#16, done := false, err := false, errcode := .none, pending := some .ksgen, busy := true }))

/-- The first failing check gives the code: the word, the key, the address, the length, the last two for CRYPT and KSGEN
only. A failed command sets `ERR`, `ERRCODE` and `DONE`, leaves `RLEN` 0, never becomes busy and changes nothing else
(rules R301, R302; the codes of rule R300). -/
def Obligations.FirstFailedCheckGivesTheCode : Prop :=
  (∀ (s : State) (c : Word), s.acceptsWrites → c ∉ legalCommandWords →
    exec (.wrCmd c) s = .next (s.withArch { s.arch with
      rlen := 0#16, done := true, err := true, errcode := .illegalCmd })) ∧
  ErrCode.illegalCmd.code = 1#4 ∧
  ErrCode.invalidKeyLength.code = 2#4 ∧ ErrCode.invalidAddressLength.code = 3#4 ∧
  ErrCode.invalidPayloadLength.code = 4#4 ∧
  ∀ (s : State) (i : Instr), s.acceptsWrites → i = .crypt ∨ i = .ksgen ∨ i = .ecb →
    (s.arch.keyCnt ≠ 16 → exec i s = .next (s.withArch { s.arch with
      rlen := 0#16, done := true, err := true, errcode := .invalidKeyLength })) ∧
    (s.arch.keyCnt = 16 → i ≠ .ecb →
      (s.arch.addrCnt ≠ 4 → exec i s = .next (s.withArch { s.arch with
        rlen := 0#16, done := true, err := true, errcode := .invalidAddressLength })) ∧
      (s.arch.addrCnt = 4 → s.cfg.bufBytes < s.arch.plen.toNat → exec i s = .next (s.withArch { s.arch with
        rlen := 0#16, done := true, err := true, errcode := .invalidPayloadLength })))

/-- The operands keep their values across commands: no command but CLRKEY, CLRADDR and SRST changes one, issued in
either form of the write, those two change their own alone, SRST sets them all to their reset values, and the engine's
step changes none (rule R50). -/
def Obligations.CommandsKeepTheOperands : Prop :=
  (∀ (s t : State) (i : Instr),
    (i = .nop ∨ i = .crypt ∨ i = .ecb ∨ i = .ksgen ∨ i = .clrkey ∨ i = .clraddr ∨ (∃ c, i = .illegal c) ∨
      ∃ c, i = .wrCmd c ∧ c ≠ 0x0000000F#32) →
    exec i s = .next t →
    t.arch.fcnt = s.arch.fcnt ∧ t.arch.dir = s.arch.dir ∧ t.arch.plen = s.arch.plen ∧
    t.arch.inBuf = s.arch.inBuf ∧
    (i ≠ .clrkey → i ≠ .wrCmd 0x00000004#32 → t.arch.key = s.arch.key ∧ t.arch.keyCnt = s.arch.keyCnt) ∧
    (i ≠ .clraddr → i ≠ .wrCmd 0x00000005#32 → t.arch.addr = s.arch.addr ∧ t.arch.addrCnt = s.arch.addrCnt)) ∧
  (∀ (s t : State) (i : Instr), i = .srst ∨ i = .wrCmd 0x0000000F#32 → s.port.rst = false → exec i s = .next t →
    t.arch = Arch.reset) ∧
  (∀ s t : State, engineTurn s = t →
    t.arch.fcnt = s.arch.fcnt ∧ t.arch.dir = s.arch.dir ∧ t.arch.plen = s.arch.plen ∧
    t.arch.inBuf = s.arch.inBuf ∧ t.arch.key = s.arch.key ∧ t.arch.keyCnt = s.arch.keyCnt ∧
    t.arch.addr = s.arch.addr ∧ t.arch.addrCnt = s.arch.addrCnt)

/-! ## The keystream datapath -/

/-- The sixteen bytes of the keying block, with the address reversed and the counter least significant byte first
(rule R183; rules R182, R184, R185, R186). -/
def Obligations.KeyingBlockLayout : Prop :=
  ∀ (addr : Vector Byte 4) (fcnt : Word) (dir : BitVec 1) (i : Nat),
    let A := keyingBlock addr fcnt dir i
    A[0] = 0x01#8 ∧ A[1] = 0x00#8 ∧ A[2] = 0x00#8 ∧ A[3] = 0x00#8 ∧ A[4] = 0x00#8 ∧
    A[5] = (if dir = 0#1 then 0x00#8 else 0x01#8) ∧
    A[6] = addr[3] ∧ A[7] = addr[2] ∧ A[8] = addr[1] ∧ A[9] = addr[0] ∧
    A[10] = fcnt.extractLsb' 0 8 ∧ A[11] = fcnt.extractLsb' 8 8 ∧ A[12] = fcnt.extractLsb' 16 8 ∧
    A[13] = fcnt.extractLsb' 24 8 ∧ A[14] = 0x00#8 ∧ A[15].toNat = i % 256

/-- Two payloads of at most 256 blocks never share a keying block unless they share the address, the counter, the
direction and the block index; 256 blocks apart the keying block repeats (rule R188). -/
def Obligations.KeyingBlocksAreDistinctWithinThePeriod : Prop :=
  (∀ (a b : Vector Byte 4) (f g : Word) (d e : BitVec 1) (i j : Nat),
    1 ≤ i → i ≤ 256 → 1 ≤ j → j ≤ 256 → keyingBlock a f d i = keyingBlock b g e j →
    a = b ∧ f = g ∧ d = e ∧ i = j) ∧
  (∀ (a : Vector Byte 4) (f : Word) (d : BitVec 1) (i : Nat), keyingBlock a f d (i + 256) = keyingBlock a f d i)

/-- Keystream byte `n` is byte `n mod 16` of block `1 + n div 16`, and the keystream of `n` bytes has `n` bytes (rule
R241). -/
def Obligations.KeystreamIsTheBlocksInOrder : Prop :=
  ∀ (a : Arch) (len : Nat), (keystream a len).length = len ∧
    ∀ n : Nat, n < len → (keystream a len)[n]? =
      some ((aes128Enc a.key (keyingBlock a.addr a.fcnt a.dir (1 + n / 16)))[n % 16]'(Nat.mod_lt n (by decide)))

/-- The keystream repeats after 256 blocks, 4096 bytes, and no earlier block of it repeats (rule R248). -/
def Obligations.KeystreamPeriodIs256Blocks : Prop :=
  (∀ (a : Arch) (i : Nat), 1 ≤ i → keystreamBlock a (i + 256) = keystreamBlock a i) ∧
  (∀ (a : Arch) (len n : Nat), n + 4096 < len → (keystream a len)[n + 4096]? = (keystream a len)[n]?) ∧
  (∀ (a : Arch) (i j : Nat), 1 ≤ i → i < j → j ≤ 256 → keystreamBlock a i ≠ keystreamBlock a j)

/-- For a fixed key the cipher is a permutation of the blocks (rule R221). -/
def Obligations.CipherIsAPermutation : Prop :=
  ∀ key : Block, Function.Bijective (aes128Enc key)

/-- The S-box table is the affine map of the field inverse, and the inverse is one (rules R204, R205, R206). -/
def Obligations.SboxIsAffineOfTheInverse : Prop :=
  (∀ x : Byte, sbox x = affine (gfInv x)) ∧ gfInv 0x00#8 = 0x00#8 ∧
  (∀ x : Byte, x ≠ 0x00#8 → gfMul x (gfInv x) = 0x01#8)

/-- The published examples of rules R220 and R221 (vectors V20 and V23). -/
def Obligations.CipherGivesThePublishedVectors : Prop :=
  aes128Enc #v[0x00#8, 0x01#8, 0x02#8, 0x03#8, 0x04#8, 0x05#8, 0x06#8, 0x07#8, 0x08#8, 0x09#8, 0x0a#8, 0x0b#8,
      0x0c#8, 0x0d#8, 0x0e#8, 0x0f#8]
    #v[0x00#8, 0x11#8, 0x22#8, 0x33#8, 0x44#8, 0x55#8, 0x66#8, 0x77#8, 0x88#8, 0x99#8, 0xaa#8, 0xbb#8,
      0xcc#8, 0xdd#8, 0xee#8, 0xff#8] =
    #v[0x69#8, 0xc4#8, 0xe0#8, 0xd8#8, 0x6a#8, 0x7b#8, 0x04#8, 0x30#8, 0xd8#8, 0xcd#8, 0xb7#8, 0x80#8,
      0x70#8, 0xb4#8, 0xc5#8, 0x5a#8] ∧
  aes128Enc (Vector.replicate 16 0x00#8) (Vector.replicate 16 0x00#8) =
    #v[0x66#8, 0xe9#8, 0x4b#8, 0xd4#8, 0xef#8, 0x8a#8, 0x2c#8, 0x3b#8, 0x88#8, 0x4c#8, 0xfa#8, 0x59#8,
      0xca#8, 0x34#8, 0x2b#8, 0x2e#8]

/-! ## Completion -/

/-- The engine's step is enabled exactly while busy: without a command in flight its turn changes nothing, and with
one it ends the command (rule R261). Its turns are inputs of the model's schedule (log entry 4). -/
def Obligations.EngineStepsOnlyWhileBusy : Prop :=
  ∀ (s : State) (rest : List Input), s.port.inputs = .engine :: rest →
    (s.arch.busy = false → step s = .next { s with port := { s.port with inputs := rest } }) ∧
    (s.arch.busy = true → ∃ t, step s = .next t ∧ t.arch.busy = false ∧ t.arch.done = true ∧
      t.arch.pending = none ∧ t.port = { s.port with inputs := rest } ∧ t.cfg = s.cfg ∧
      t.arch = (engineTurn s).arch)

/-- The completion of CRYPT: `OUT[n] = IN[n] ⊕ KS[n]` for `n < PLEN`, every other byte of OUT as before, `RLEN = PLEN`,
`BUSY` clear, `DONE` set, and no other element changed (rules R242, R263 and the CRYPT case of R261). -/
def Obligations.CryptCompletesWithThePayloadXorKeystream : Prop :=
  ∀ s : State, s.arch.busy = true → s.arch.pending = some .crypt → s.arch.outBuf.wf = true →
    ∃ t, engineTurn s = t ∧
      t = s.withArch { s.arch with
        pending := none, busy := false, done := true, rlen := s.arch.plen, outBuf := t.arch.outBuf } ∧
      (∀ n : Nat, n < s.arch.plen.toNat → t.arch.outBuf.read n = s.arch.inBuf.read n ^^^
        (aes128Enc s.arch.key (keyingBlock s.arch.addr s.arch.fcnt s.arch.dir (1 + n / 16)))[n % 16]'(
          Nat.mod_lt n (by decide))) ∧
      (∀ n : Nat, s.arch.plen.toNat ≤ n → t.arch.outBuf.read n = s.arch.outBuf.read n)

/-- The completion of KSGEN: `OUT[n] = KS[n]` for `n < PLEN`, every other byte of OUT as before, `RLEN = PLEN`, and no
other element changed but the flags (the KSGEN case of rules R261, R266). -/
def Obligations.KsgenCompletesWithTheKeystream : Prop :=
  ∀ s : State, s.arch.busy = true → s.arch.pending = some .ksgen → s.arch.outBuf.wf = true →
    ∃ t, engineTurn s = t ∧
      t = s.withArch { s.arch with
        pending := none, busy := false, done := true, rlen := s.arch.plen, outBuf := t.arch.outBuf } ∧
      (∀ n : Nat, n < s.arch.plen.toNat → t.arch.outBuf.read n =
        (aes128Enc s.arch.key (keyingBlock s.arch.addr s.arch.fcnt s.arch.dir (1 + n / 16)))[n % 16]'(
          Nat.mod_lt n (by decide))) ∧
      (∀ n : Nat, s.arch.plen.toNat ≤ n → t.arch.outBuf.read n = s.arch.outBuf.read n)

/-- The completion of ECB: `OUT[0..16) = AES128_ENC(KEY, IN[0..16))`, every other byte of OUT as before, `RLEN = 16`,
and no other element changed but the flags; the address and the length are not read (rule R265). -/
def Obligations.EcbCompletesWithOneBlock : Prop :=
  ∀ (s : State) (x : Block), s.arch.busy = true → s.arch.pending = some .ecb → s.arch.outBuf.wf = true →
    (∀ (j : Nat) (h : j < 16), x[j] = s.arch.inBuf.read j) →
    ∃ t, engineTurn s = t ∧
      t = s.withArch { s.arch with
        pending := none, busy := false, done := true, rlen := 16#16, outBuf := t.arch.outBuf } ∧
      (∀ (n : Nat) (h : n < 16), t.arch.outBuf.read n = (aes128Enc s.arch.key x)[n]) ∧
      (∀ n : Nat, 16 ≤ n → t.arch.outBuf.read n = s.arch.outBuf.read n)

/-- CRYPT from issue to result: with its checks passed, the issue and then the engine's step leave
`OUT[0..PLEN) = IN[0..PLEN) ⊕ KS` of the operands at issue, `RLEN = PLEN` and `STATUS.DONE` alone beside `ACCERR`,
whatever was discarded in between (rules R262, R264). The schedule is the model's input (log entry 4). -/
def Obligations.CryptResultDependsOnTheOperandsAtIssue : Prop :=
  ∀ (s : State) (ws : List Instr) (ins : List Input), s.acceptsWrites → s.payloadLoaded →
    s.arch.outBuf.wf = true → (∀ w ∈ ws, w.wellFormed = true ∧ w.isSoftReset = false) →
    s.port.inputs = asInputs (.crypt :: ws) ++ .engine :: ins →
    ∃ t, core.run (ws.length + 2) s = .next t ∧ t.port.inputs = ins ∧
      t.arch.busy = false ∧ t.arch.done = true ∧ t.arch.err = false ∧ t.arch.rlen = s.arch.plen ∧
      (∀ n : Nat, n < s.arch.plen.toNat → t.arch.outBuf.read n = s.arch.inBuf.read n ^^^
        (aes128Enc s.arch.key (keyingBlock s.arch.addr s.arch.fcnt s.arch.dir (1 + n / 16)))[n % 16]'(
          Nat.mod_lt n (by decide))) ∧
      (∀ n : Nat, s.arch.plen.toNat ≤ n → t.arch.outBuf.read n = s.arch.outBuf.read n)

/-- Encryption and decryption are one operation: CRYPT on the result of CRYPT, with the same key, address, counter,
direction and length, restores the payload, whatever else the second state holds (rule R245). -/
def Obligations.CryptTwiceRestoresThePayload : Prop :=
  ∀ s u : State, s.arch.busy = true → s.arch.pending = some .crypt →
    u.arch.busy = true → u.arch.pending = some .crypt →
    s.arch.outBuf.wf = true → u.arch.outBuf.wf = true →
    u.arch.key = s.arch.key → u.arch.addr = s.arch.addr → u.arch.fcnt = s.arch.fcnt →
    u.arch.dir = s.arch.dir → u.arch.plen = s.arch.plen →
    (∀ n : Nat, n < s.arch.plen.toNat → u.arch.inBuf.read n = (engineTurn s).arch.outBuf.read n) →
    ∀ n : Nat, n < s.arch.plen.toNat → (engineTurn u).arch.outBuf.read n = s.arch.inBuf.read n

/-- Equal operands give equal results: the output depends on nothing else. CRYPT reads the key, the address, the
counter, the direction, the length and `IN[0..PLEN)`; KSGEN the same without IN; ECB the key and `IN[0..16)` alone
(rules R7, R273; the operands of rules R264, R265, R266). -/
def Obligations.EqualOperandsGiveEqualResults : Prop :=
  ∀ s u : State, s.arch.busy = true → u.arch.busy = true → s.arch.pending ≠ none →
    s.arch.outBuf.wf = true → u.arch.outBuf.wf = true →
    u.arch.pending = s.arch.pending → u.arch.key = s.arch.key →
    (s.arch.pending ≠ some .ecb → u.arch.addr = s.arch.addr ∧ u.arch.fcnt = s.arch.fcnt ∧
      u.arch.dir = s.arch.dir ∧ u.arch.plen = s.arch.plen) →
    (s.arch.pending = some .crypt →
      ∀ n : Nat, n < s.arch.plen.toNat → u.arch.inBuf.read n = s.arch.inBuf.read n) →
    (s.arch.pending = some .ecb → ∀ n : Nat, n < 16 → u.arch.inBuf.read n = s.arch.inBuf.read n) →
    (engineTurn u).arch.rlen = (engineTurn s).arch.rlen ∧
    ∀ n : Nat, n < (engineTurn s).arch.rlen.toNat →
      (engineTurn u).arch.outBuf.read n = (engineTurn s).arch.outBuf.read n

/-- A zero-length payload uses no block and completes without error: no byte of OUT is written and `RLEN = 0` (rule
R247). -/
def Obligations.ZeroLengthPayloadYieldsNothing : Prop :=
  ∀ s : State, s.Inv → s.arch.plen = 0#16 →
    s.arch.pending = some .crypt ∨ s.arch.pending = some .ksgen →
    blockCount s.arch.plen.toNat = 0 ∧ (engineTurn s).arch.outBuf = s.arch.outBuf ∧ (engineTurn s).arch.rlen = 0#16 ∧
    (engineTurn s).arch.err = false ∧ (engineTurn s).arch.done = true

/-! ## Rules over every step -/

/-- While a command is in flight no step changes an operand, except by a reset of the whole machine (rules R262,
R340). -/
def Obligations.OperandsStayFixedWhileBusy : Prop :=
  ∀ s t : State, s.arch.busy = true → step s = .next t →
    t.arch = Arch.reset ∨
    (t.arch.key = s.arch.key ∧ t.arch.keyCnt = s.arch.keyCnt ∧ t.arch.addr = s.arch.addr ∧
      t.arch.addrCnt = s.arch.addrCnt ∧ t.arch.fcnt = s.arch.fcnt ∧ t.arch.dir = s.arch.dir ∧
      t.arch.plen = s.arch.plen ∧ t.arch.ie = s.arch.ie ∧ t.arch.inBuf = s.arch.inBuf)

/-- `BUSY` rises only by the issue of a long command that passes its checks, and falls only by the engine's step, by
SRST and by reset (rule R35). -/
def Obligations.BusyRisesAndFallsOnlyAsStated : Prop :=
  ∀ s t : State, step s = .next t →
    (s.arch.busy = false → t.arch.busy = true → s.arch.keyCnt = 16 ∧
      ∃ i, s.nextInstr = some i ∧
        (i = .ecb ∨ i = .wrCmd 0x00000002#32 ∨
          s.payloadLoaded ∧ (i = .crypt ∨ i = .ksgen ∨ i = .wrCmd 0x00000001#32 ∨ i = .wrCmd 0x00000003#32))) ∧
    (s.arch.busy = true → t.arch.busy = false →
      s.nextIsEngine = true ∨ s.nextAssertsReset = true ∨
      ∃ i, s.nextInstr = some i ∧ i.isSoftReset = true)

/-- `ACCERR` is sticky: every write while busy but SRST sets it and nothing else does; only a write of `STATUS` with
bit 3 set while idle, SRST and reset clear it; it raises no interrupt (rule R38). -/
def Obligations.AccerrIsSticky : Prop :=
  (∀ (s : State) (b : Bool), (s.withArch { s.arch with accerr := b }).irq = s.irq) ∧
  ∀ s t : State, step s = .next t →
    (∀ i, s.nextInstr = some i → s.port.rst = false → s.arch.busy = true → i.isRead = false →
      i.isSoftReset = false → t.arch.accerr = true) ∧
    (s.arch.accerr = false → t.arch.accerr = true →
      s.arch.busy = true ∧ ∃ i, s.nextInstr = some i ∧ i.isRead = false ∧ i.isSoftReset = false) ∧
    (s.arch.accerr = true → t.arch.accerr = false →
      s.nextAssertsReset = true ∨
      ∃ i, s.nextInstr = some i ∧
        (i.isSoftReset = true ∨ s.arch.busy = false ∧ ∃ d, i = .wrStatus d ∧ d.getLsbD 3 = true))

/-- `KEY` is written only through `KEY_PUSH` and cleared by CLRKEY, SRST and reset; `ADDR` likewise (rules R43,
R46). -/
def Obligations.KeyAndAddressChangeOnlyAsStated : Prop :=
  ∀ s t : State, step s = .next t →
    (t.arch.key ≠ s.arch.key ∨ t.arch.keyCnt ≠ s.arch.keyCnt →
      s.nextAssertsReset = true ∨ ∃ i, s.nextInstr = some i ∧
        (i.isSoftReset = true ∨ i = .clrkey ∨ i = .wrCmd 0x00000004#32 ∨ ∃ d, i = .wrKeyPush d)) ∧
    (t.arch.addr ≠ s.arch.addr ∨ t.arch.addrCnt ≠ s.arch.addrCnt →
      s.nextAssertsReset = true ∨ ∃ i, s.nextInstr = some i ∧
        (i.isSoftReset = true ∨ i = .clraddr ∨ i = .wrCmd 0x00000005#32 ∨ ∃ d, i = .wrAddrPush d))

/-- The engine only reads IN and the host only reads OUT: IN changes only by a write of an IN word or a reset, OUT only
by the engine's step or a reset (rules R54, R55). -/
def Obligations.BuffersChangeOnlyByTheirOwner : Prop :=
  ∀ s t : State, step s = .next t →
    (t.arch.inBuf ≠ s.arch.inBuf → s.nextAssertsReset = true ∨
      ∃ i, s.nextInstr = some i ∧ (i.isSoftReset = true ∨ ∃ k d, i = .wrIn k d)) ∧
    (t.arch.outBuf ≠ s.arch.outBuf → s.nextAssertsReset = true ∨
      s.nextIsEngine = true ∧ s.arch.busy = true ∨ ∃ i, s.nextInstr = some i ∧ i.isSoftReset = true)

/-- The interrupt is the level `IE ∧ DONE`: a completion raises it when enabled, an acknowledging write of `STATUS`, a
write of `INTEN` with bit 0 clear and the start of each long command lower it, and enabling it while `DONE = 1` raises it
at once (rules R57, R157, R305, R346). -/
def Obligations.InterruptFollowsEnableAndDone : Prop :=
  (∀ s : State, s.arch.busy = true → (engineTurn s).irq = s.arch.ie) ∧
  (∀ (s : State) (d : Word), s.acceptsWrites →
    (∃ t, exec (.wrStatus d) s = .next t ∧ t.irq = (s.irq && !d.getLsbD 1)) ∧
    (∃ t, exec (.wrInten d) s = .next t ∧ t.irq = (s.arch.done && d.getLsbD 0)) ∧
    (s.arch.keyCnt = 16 → ∃ t, exec .ecb s = .next t ∧ t.irq = false) ∧
    (s.payloadLoaded → (∃ t, exec .crypt s = .next t ∧ t.irq = false) ∧
      ∃ t, exec .ksgen s = .next t ∧ t.irq = false))

/-- A `WAIT` ends: when the scheduler gives the engine its turn after finitely many reads, a busy machine is idle with
`DONE` set right after; with no input left it takes one step (rule R348; the schedule is the model's input, log entry
4). If no transaction is left to come, the run is then over (rule R349). -/
def Obligations.WaitEndsOnceTheEngineIsScheduled : Prop :=
  (∀ (s : State) (rs : List Instr) (rest : List Input), s.arch.busy = true →
    (∀ r ∈ rs, r.isRead = true) → s.port.inputs = asInputs rs ++ .engine :: rest →
    ∃ t, core.run (rs.length + 1) s = .next t ∧ t.arch.busy = false ∧ t.arch.done = true ∧
      t.port.inputs = rest ∧ t.port.reads.length = s.port.reads.length + rs.length ∧
      ((∀ i ∈ rest, i.awaitsPort = false) → t.runOver = true)) ∧
  (∀ s : State, s.arch.busy = true → s.port.inputs = [] →
    ∃ t, step s = .next t ∧ t.arch.busy = false ∧ t.arch.done = true ∧ t.runOver = true)

/-! ## Lengths -/

/-- A transaction is 48 bits and a command word 32, every number of that many bits is one, and no number of another
length, shorter or longer, decodes to anything (rules R120, R127). -/
def Obligations.OnlyWordsOfTheTwoLengthsDecode : Prop :=
  (∀ w : BitVec 48, decodeTableWord 48 w.toNat = some (decode (.bus w))) ∧
  (∀ c : Word, decodeTableWord 32 c.toNat = some (decode (.cmd c))) ∧
  (∀ nbits w : Nat, nbits ≠ 48 → nbits ≠ 32 → decodeTableWord nbits w = none) ∧
  (∀ nbits w : Nat, nbits = 48 ∨ nbits = 32 → 2 ^ nbits ≤ w → decodeTableWord nbits w = none)
end

