-- ==== Sys2Proof/Laws/Cipher.lean ====
section
/-! SUPPORT. The cipher's parts undo themselves, and the keystream's blocks byte by byte. -/

namespace Sys2Proof.Machine

/-- XOR, sorted: with associativity and commutativity this puts equal terms side by side. -/
theorem xor_swap (a b c : Byte) : a ^^^ (b ^^^ c) = b ^^^ (a ^^^ c) := by
  rw [← BitVec.xor_assoc, BitVec.xor_comm a b, BitVec.xor_assoc]

/-- Two equal terms side by side cancel. -/
theorem xor_cancel (a b : Byte) : a ^^^ (a ^^^ b) = b := by rw [← BitVec.xor_assoc, BitVec.xor_self, BitVec.zero_xor]

/-- `xtime` is linear (rules R201, R202). -/
theorem xtime_xor : ∀ a b : Byte, xtime (a ^^^ b) = xtime a ^^^ xtime b := by
  have shift : ∀ a b : Byte, (a ^^^ b) <<< 1 = (a <<< 1) ^^^ (b <<< 1) := fun a b => by
    rw [BitVec.shiftLeft_xor_distrib]
  intro a b
  unfold xtime
  rw [BitVec.getLsbD_xor, shift]
  cases a.getLsbD 7 <;> cases b.getLsbD 7 <;> simp [BitVec.xor_assoc, BitVec.xor_comm, xor_swap]

/-- Loading what was stored (rule R211). -/
@[simp] theorem loadBlock_storeBlock (s : AesState) : loadBlock (storeBlock s) = s := rfl

/-- Storing what was loaded (rule R211). -/
@[simp] theorem storeBlock_loadBlock (x : Block) : storeBlock (loadBlock x) = x := by
  ext j hj
  have : j = 0 ∨ j = 1 ∨ j = 2 ∨ j = 3 ∨ j = 4 ∨ j = 5 ∨ j = 6 ∨ j = 7 ∨ j = 8 ∨ j = 9 ∨ j = 10 ∨ j = 11 ∨ j = 12 ∨
      j = 13 ∨ j = 14 ∨ j = 15 := by omega
  rcases this with h | h | h | h | h | h | h | h | h | h | h | h | h | h | h | h <;> subst h <;> rfl

/-- A word XORed twice is back. -/
@[simp] theorem xorWord_xorWord (x k : AesWord) : xorWord (xorWord x k) k = x := by
  simp [xorWord]

/-- `AddRoundKey` twice with one key is the identity (rule R215). -/
@[simp] theorem addRoundKey_addRoundKey (s k : AesState) : addRoundKey (addRoundKey s k) k = s := by
  simp [addRoundKey]

/-- `ShiftRows` four times is the identity (rule R213). -/
theorem shiftRows_four (s : AesState) : shiftRows (shiftRows (shiftRows (shiftRows s))) = s := rfl

/-- `MixColumns` twice on a column: opposite bytes meet under `0x04` (rule R214). -/
theorem mixColumn_twice (a : AesWord) : mixColumn (mixColumn a) =
    ⟨xtime (xtime (a.b0 ^^^ a.b2)) ^^^ a.b0, xtime (xtime (a.b1 ^^^ a.b3)) ^^^ a.b1,
     xtime (xtime (a.b0 ^^^ a.b2)) ^^^ a.b2, xtime (xtime (a.b1 ^^^ a.b3)) ^^^ a.b3⟩ := by
  obtain ⟨a0, a1, a2, a3⟩ := a
  simp only [mixColumn, triple, xtime_xor, AesWord.mk.injEq]
  refine ⟨?_, ?_, ?_, ?_⟩ <;>
    simp only [BitVec.xor_assoc, BitVec.xor_comm, xor_swap, xor_cancel, BitVec.xor_self, BitVec.zero_xor]

/-- `MixColumns` four times on a column is the identity (rule R214). -/
theorem mixColumn_four (a : AesWord) : mixColumn (mixColumn (mixColumn (mixColumn a))) = a := by
  rw [mixColumn_twice, mixColumn_twice]
  obtain ⟨a0, a1, a2, a3⟩ := a
  simp only [xtime_xor, AesWord.mk.injEq]
  refine ⟨?_, ?_, ?_, ?_⟩ <;>
    simp only [BitVec.xor_assoc, BitVec.xor_comm, xor_swap, BitVec.xor_self, BitVec.xor_zero, BitVec.zero_xor]

/-- The S-box backwards, 32 bytes a number, the first in its low byte; computed from the table of rule R206. -/
def inverseSboxRows : List Nat :=
  [0xcbe9dec444438e3487ff2f9b8239e37cfbd7f3819ea340bf38a53630d56a0952,
   0x25d18b6d49a25b76b224d92866a12e084ec3fa420b954cee3d23c2a632947b54,
   0x849d8da75746155edab9edfd5048706c92b6655dcc5ca4d41698688664f6f872,
   0x6b8a130103bdafc1020f3fca8f1e2cd00645b3b80558e4f70ad3bc8c00abd890,
   0x6edf751ce837f9e28535ade72274ac9673e6b4f0cecff297eadc674f4111913a,
   0xf45acd78fec0db9a2079d2c64b3e56fc1bbe18aa0e62b76f89c5291d711af147,
   0xef9cc9939f7ae52d0d4ab519a97f51605fec8027591012b131c7078833a8dd1f,
   0x7d0c2155631469e126d677ba7e042b17619953833cbbebc8b0f52aae4d3be0a0]

/-- The byte the S-box sends to `y`. -/
def inverseSbox (y : Byte) : Byte := BitVec.ofNat 8 (inverseSboxRows.getD (y.toNat / 32) 0 >>> (8 * (y.toNat % 32)))

/-- The S-box undone (rule R206). -/
theorem inverseSbox_sbox (x : Byte) : inverseSbox (sbox x) = x := by
  have h : ∀ i : Fin 256, inverseSbox (sbox (BitVec.ofFin i)) = BitVec.ofFin i := by decide +kernel
  exact h x.toFin

/-- The S-box sends no two bytes to one (rule R206). -/
theorem sbox_injective : Function.Injective sbox := Function.LeftInverse.injective inverseSbox_sbox

/-! ## The keystream's blocks -/

/-- `m` blocks are `16 m` bytes. -/
@[simp] theorem keystreamBlocks_length (a : Arch) : ∀ m i, (keystreamBlocks a i m).length = 16 * m
  | 0, _ => rfl
  | m + 1, i => by simp [keystreamBlocks, keystreamBlocks_length a m (i + 1)]; omega

/-- Byte `n` of the blocks from block `i` on. -/
theorem getElem?_keystreamBlocks (a : Arch) : ∀ (m i n : Nat), n < 16 * m → (keystreamBlocks a i m)[n]? =
    some ((keystreamBlock a (i + n / 16))[n % 16]'(Nat.mod_lt n (by decide)))
  | m + 1, i, n, h => by
    rw [keystreamBlocks, List.getElem?_append]
    by_cases hn : n < 16
    · have e1 : n / 16 = 0 := by omega
      have e2 : n % 16 = n := by omega
      simp [hn, e1, e2]
    · have e1 : i + 1 + (n - 16) / 16 = i + n / 16 := by omega
      have e2 : (n - 16) % 16 = n % 16 := by omega
      simp [hn, getElem?_keystreamBlocks a m (i + 1) (n - 16) (by omega), e1, e2]

end Sys2Proof.Machine
end

