-- ==== Sys2Proof/Laws/Encoding.lean ====
section
/-! SUPPORT. The fields of a transaction's word, and what the decoder reads from it. -/

namespace Sys2Proof.Laws

/-- Bit 47 of a transaction is `we` (rule R121). -/
theorem busWord_we (we : Bool) (widx : BitVec 15) (d : Word) : (busWord we widx d).getLsbD 47 = we := by
  simp only [busWord, BitVec.getLsbD_append]
  simp

/-- Bits [46:32] are `widx` (rule R121). -/
@[simp] theorem busWord_widx (we : Bool) (widx : BitVec 15) (d : Word) :
    (busWord we widx d).extractLsb' 32 15 = widx := by
  apply BitVec.eq_of_getLsbD_eq
  intro j hj
  simp only [busWord, BitVec.getLsbD_append, BitVec.getLsbD_extractLsb']
  simp [hj]

/-- Bits [31:0] are `wdata` (rule R121). -/
@[simp] theorem busWord_wdata (we : Bool) (widx : BitVec 15) (d : Word) :
    (busWord we widx d).extractLsb' 0 32 = d := by
  apply BitVec.eq_of_getLsbD_eq
  intro j hj
  simp only [busWord, BitVec.getLsbD_append, BitVec.getLsbD_extractLsb']
  simp [hj]

/-- `we` picks the read or the write rule, `widx` the word (rule R122). -/
theorem decode_busWord (we : Bool) (widx : BitVec 15) (d : Word) :
    decode (.bus (busWord we widx d)) = if we then decodeWrite widx d else decodeRead widx := by
  simp only [decode, decodeBus48, busWord_we, busWord_widx, busWord_wdata]

/-- Every number of 48 bits is a transaction (rule R120). -/
@[simp] theorem encodedOfBits_bus (w : BitVec 48) : encodedOfBits 48 w.toNat = .ok (.bus w) := by
  simp [encodedOfBits, w.isLt]

/-- Every number of 32 bits is a command word (rule R120). -/
@[simp] theorem encodedOfBits_cmd (c : Word) : encodedOfBits 32 c.toNat = .ok (.cmd c) := by
  simp [encodedOfBits, c.isLt]

/-- A number of another length is a word of neither format (rules R120, R127). -/
theorem encodedOfBits_other {nbits : Nat} (w : Nat) (h48 : nbits ≠ 48) (h32 : nbits ≠ 32) :
    encodedOfBits nbits w = .error .noSuchFormat := by
  simp [encodedOfBits, h48, h32]

/-- The low part of a leading constant and an operand is the operand. -/
theorem setWidth_append {a b : Nat} (x : BitVec a) (y : BitVec b) : (x ++ y).setWidth b = y := by
  apply BitVec.eq_of_getLsbD_eq
  intro j hj
  simp only [BitVec.getLsbD_setWidth, BitVec.getLsbD_append]
  simp [hj]

end Sys2Proof.Laws
end

