-- ==== Sys2Proof/Laws/Memory.lean ====
section
/-! SUPPORT. The buffers: a read after a write, and the canonical form kept by every operation. -/

namespace Sys2Proof.Machine

theorem Memory.wfFrom_mono : ∀ (m : Memory) {lo lo' : Nat}, lo' ≤ lo → Memory.wfFrom lo m = true →
    Memory.wfFrom lo' m = true
  | [], _, _, _, _ => rfl
  | (a, b) :: m, lo, lo', hle, h => by
    simp only [Memory.wfFrom, Bool.and_eq_true, decide_eq_true_eq] at h ⊢
    exact ⟨⟨by omega, h.1.2⟩, h.2⟩

/-- Below its first listed address a canonical buffer reads as unlisted. -/
theorem Memory.read_below : ∀ (m : Memory) {lo n : Nat}, Memory.wfFrom lo m = true → n < lo →
    m.read n = Memory.unlisted
  | [], _, _, _, _ => rfl
  | (a, b) :: m, lo, n, h, hn => by
    simp only [Memory.wfFrom, Bool.and_eq_true, decide_eq_true_eq] at h
    rw [Memory.read, if_neg (by omega)]
    exact Memory.read_below m h.2 (by omega)

theorem Memory.write_wfFrom : ∀ (m : Memory) {lo n : Nat} (v : Byte), Memory.wfFrom lo m = true → lo ≤ n →
    Memory.wfFrom lo (m.write n v) = true
  | [], lo, n, v, _, hn => by
    unfold Memory.write
    split <;> simp_all [Memory.wfFrom]
  | (a, b) :: m, lo, n, v, h, hn => by
    have h' := h
    simp only [Memory.wfFrom, Bool.and_eq_true, decide_eq_true_eq, bne_iff_ne] at h'
    obtain ⟨⟨hlo, hb⟩, hm⟩ := h'
    unfold Memory.write
    split
    · split
      · exact h
      · simp only [Memory.wfFrom, Bool.and_eq_true, decide_eq_true_eq, bne_iff_ne]
        exact ⟨⟨hn, ‹_›⟩, ⟨by omega, hb⟩, hm⟩
    · split
      · split
        · exact Memory.wfFrom_mono m (by omega) hm
        · simp only [Memory.wfFrom, Bool.and_eq_true, decide_eq_true_eq, bne_iff_ne]
          subst n
          exact ⟨⟨hn, ‹_›⟩, hm⟩
      · simp only [Memory.wfFrom, Bool.and_eq_true, decide_eq_true_eq, bne_iff_ne]
        exact ⟨⟨hlo, hb⟩, Memory.write_wfFrom m v hm (by omega)⟩

theorem Memory.read_write_from : ∀ (m : Memory) {lo : Nat} (n : Nat) (v : Byte) (x : Nat),
    Memory.wfFrom lo m = true → (m.write n v).read x = if x = n then v else m.read x
  | [], _, n, v, x, _ => by
    unfold Memory.write
    split <;> simp_all [Memory.read]
  | (a, b) :: m, lo, n, v, x, h => by
    have h' := h
    simp only [Memory.wfFrom, Bool.and_eq_true, decide_eq_true_eq, bne_iff_ne] at h'
    obtain ⟨⟨hlo, hb⟩, hm⟩ := h'
    have below : ∀ y, y ≤ a → Memory.read m y = Memory.unlisted := fun y hy => Memory.read_below m hm (by omega)
    unfold Memory.write
    split
    · split
      · by_cases hx : x = n
        · subst hx
          rw [if_pos rfl, Memory.read, if_neg (by omega), below x (by omega), ‹v = Memory.unlisted›]
        · rw [if_neg hx]
      · simp only [Memory.read]
    · split
      · subst n
        split
        · by_cases hx : x = a
          · subst hx
            rw [if_pos rfl, below x (Nat.le_refl x), ‹v = Memory.unlisted›]
          · simp [Memory.read, hx]
        · by_cases hx : x = a <;> simp [Memory.read, hx]
      · by_cases hx : x = a
        · subst hx
          rw [if_neg (by omega)]
          simp [Memory.read]
        · simp only [Memory.read, if_neg hx]
          exact Memory.read_write_from m n v x hm

/-- A write changes the byte it writes and no other. -/
theorem Memory.read_write (m : Memory) (n : Nat) (v : Byte) (x : Nat) (h : m.wf = true) :
    (m.write n v).read x = if x = n then v else m.read x := Memory.read_write_from m n v x h

/-- A write keeps the canonical form. -/
theorem Memory.write_wf (m : Memory) (n : Nat) (v : Byte) (h : m.wf = true) : (m.write n v).wf = true :=
  Memory.write_wfFrom m v h (Nat.zero_le n)

/-- A write of several bytes keeps the canonical form. -/
theorem Memory.writeBytes_wf : ∀ (bs : List Byte) (m : Memory) (n : Nat), m.wf = true →
    (m.writeBytes n bs).wf = true
  | [], _, _, h => h
  | b :: bs, m, n, h => Memory.writeBytes_wf bs (m.write n b) (n + 1) (Memory.write_wf m n b h)

/-- What each byte reads as after several bytes are written at `n`. -/
theorem Memory.read_writeBytes : ∀ (bs : List Byte) (m : Memory) (n x : Nat), m.wf = true →
    (m.writeBytes n bs).read x = if n ≤ x then bs.getD (x - n) (m.read x) else m.read x
  | [], m, n, x, _ => by simp [Memory.writeBytes]
  | b :: bs, m, n, x, h => by
    rw [Memory.writeBytes, Memory.read_writeBytes bs (m.write n b) (n + 1) x (Memory.write_wf m n b h),
      Memory.read_write m n b x h]
    rcases Nat.lt_trichotomy x n with hx | hx | hx
    · rw [if_neg (by omega), if_neg (by omega), if_neg (by omega)]
    · subst hx
      simp
    · rw [if_pos (by omega), if_neg (by omega), if_pos (by omega),
        show x - n = (x - (n + 1)) + 1 by omega, List.getD_cons_succ]

/-- The bytes read are as many as asked for. -/
@[simp] theorem Memory.readBytes_length (m : Memory) : ∀ (k n : Nat), (m.readBytes n k).length = k
  | 0, _ => rfl
  | k + 1, n => by simp [Memory.readBytes, Memory.readBytes_length m k (n + 1)]

/-- Byte `i` of the bytes read from `n`. -/
theorem Memory.getElem?_readBytes (m : Memory) : ∀ (k n i : Nat), i < k →
    (m.readBytes n k)[i]? = some (m.read (n + i))
  | k + 1, n, 0, _ => by simp [Memory.readBytes]
  | k + 1, n, i + 1, h => by
    rw [Memory.readBytes, List.getElem?_cons_succ, Memory.getElem?_readBytes m k (n + 1) i (by omega)]
    congr 2
    omega

theorem Memory.write_within : ∀ (m : Memory) (n : Nat) (v : Byte) (b : Nat), m.within b = true → n < b →
    (m.write n v).within b = true
  | [], n, v, b, _, hn => by
    unfold Memory.write
    split <;> simp [Memory.within, hn]
  | (a, c) :: m, n, v, b, h, hn => by
    have h' := h
    simp only [Memory.within, List.all_cons, Bool.and_eq_true, decide_eq_true_eq] at h'
    have ih : Memory.within m b = true := h'.2
    unfold Memory.write
    split
    · split
      · exact h
      · simp [Memory.within, hn, h'.1]
        simpa [Memory.within] using ih
    · split
      · split
        · exact ih
        · simp [Memory.within, hn]
          simpa [Memory.within] using ih
      · have := Memory.write_within m n v b ih hn
        simp [Memory.within, h'.1]
        simpa [Memory.within] using this

/-- Bytes written inside a bound stay inside it. -/
theorem Memory.writeBytes_within : ∀ (bs : List Byte) (m : Memory) (n b : Nat), m.within b = true →
    n + bs.length ≤ b → (m.writeBytes n bs).within b = true
  | [], _, _, _, h, _ => h
  | v :: bs, m, n, b, h, hb => by
    simp only [List.length_cons] at hb
    exact Memory.writeBytes_within bs (m.write n v) (n + 1) b (Memory.write_within m n v b h (by omega)) (by omega)

end Sys2Proof.Machine
end

