-- ==== Sys2Proof/Laws/State.lean ====
section
/-! SUPPORT. One lemma per field per update of the state, true by unfolding once. -/

namespace Sys2Proof.Machine

/-! ## `clearFlags` -/

@[simp] theorem clearFlags_key (d : Word) (a : Arch) : (clearFlags d a).key = a.key := rfl
@[simp] theorem clearFlags_keyCnt (d : Word) (a : Arch) : (clearFlags d a).keyCnt = a.keyCnt := rfl
@[simp] theorem clearFlags_addr (d : Word) (a : Arch) : (clearFlags d a).addr = a.addr := rfl
@[simp] theorem clearFlags_addrCnt (d : Word) (a : Arch) : (clearFlags d a).addrCnt = a.addrCnt := rfl
@[simp] theorem clearFlags_fcnt (d : Word) (a : Arch) : (clearFlags d a).fcnt = a.fcnt := rfl
@[simp] theorem clearFlags_dir (d : Word) (a : Arch) : (clearFlags d a).dir = a.dir := rfl
@[simp] theorem clearFlags_plen (d : Word) (a : Arch) : (clearFlags d a).plen = a.plen := rfl
@[simp] theorem clearFlags_rlen (d : Word) (a : Arch) : (clearFlags d a).rlen = a.rlen := rfl
@[simp] theorem clearFlags_ie (d : Word) (a : Arch) : (clearFlags d a).ie = a.ie := rfl
@[simp] theorem clearFlags_busy (d : Word) (a : Arch) : (clearFlags d a).busy = a.busy := rfl
@[simp] theorem clearFlags_done (d : Word) (a : Arch) : (clearFlags d a).done = (a.done && !d.getLsbD 1) := rfl
@[simp] theorem clearFlags_err (d : Word) (a : Arch) : (clearFlags d a).err = (a.err && !d.getLsbD 2) := rfl
@[simp] theorem clearFlags_accerr (d : Word) (a : Arch) : (clearFlags d a).accerr = (a.accerr && !d.getLsbD 3) := rfl
@[simp] theorem clearFlags_errcode (d : Word) (a : Arch) : (clearFlags d a).errcode = (if d.getLsbD 2 then .none else a.errcode) := rfl
@[simp] theorem clearFlags_pending (d : Word) (a : Arch) : (clearFlags d a).pending = a.pending := rfl
@[simp] theorem clearFlags_inBuf (d : Word) (a : Arch) : (clearFlags d a).inBuf = a.inBuf := rfl
@[simp] theorem clearFlags_outBuf (d : Word) (a : Arch) : (clearFlags d a).outBuf = a.outBuf := rfl

/-! ## `beginCommand` -/

@[simp] theorem beginCommand_key (a : Arch) : (beginCommand a).key = a.key := rfl
@[simp] theorem beginCommand_keyCnt (a : Arch) : (beginCommand a).keyCnt = a.keyCnt := rfl
@[simp] theorem beginCommand_addr (a : Arch) : (beginCommand a).addr = a.addr := rfl
@[simp] theorem beginCommand_addrCnt (a : Arch) : (beginCommand a).addrCnt = a.addrCnt := rfl
@[simp] theorem beginCommand_fcnt (a : Arch) : (beginCommand a).fcnt = a.fcnt := rfl
@[simp] theorem beginCommand_dir (a : Arch) : (beginCommand a).dir = a.dir := rfl
@[simp] theorem beginCommand_plen (a : Arch) : (beginCommand a).plen = a.plen := rfl
@[simp] theorem beginCommand_rlen (a : Arch) : (beginCommand a).rlen = 0#16 := rfl
@[simp] theorem beginCommand_ie (a : Arch) : (beginCommand a).ie = a.ie := rfl
@[simp] theorem beginCommand_busy (a : Arch) : (beginCommand a).busy = a.busy := rfl
@[simp] theorem beginCommand_done (a : Arch) : (beginCommand a).done = false := rfl
@[simp] theorem beginCommand_err (a : Arch) : (beginCommand a).err = false := rfl
@[simp] theorem beginCommand_accerr (a : Arch) : (beginCommand a).accerr = a.accerr := rfl
@[simp] theorem beginCommand_errcode (a : Arch) : (beginCommand a).errcode = .none := rfl
@[simp] theorem beginCommand_pending (a : Arch) : (beginCommand a).pending = a.pending := rfl
@[simp] theorem beginCommand_inBuf (a : Arch) : (beginCommand a).inBuf = a.inBuf := rfl
@[simp] theorem beginCommand_outBuf (a : Arch) : (beginCommand a).outBuf = a.outBuf := rfl

/-! ## `setDone` -/

@[simp] theorem setDone_key (a : Arch) : (setDone a).key = a.key := rfl
@[simp] theorem setDone_keyCnt (a : Arch) : (setDone a).keyCnt = a.keyCnt := rfl
@[simp] theorem setDone_addr (a : Arch) : (setDone a).addr = a.addr := rfl
@[simp] theorem setDone_addrCnt (a : Arch) : (setDone a).addrCnt = a.addrCnt := rfl
@[simp] theorem setDone_fcnt (a : Arch) : (setDone a).fcnt = a.fcnt := rfl
@[simp] theorem setDone_dir (a : Arch) : (setDone a).dir = a.dir := rfl
@[simp] theorem setDone_plen (a : Arch) : (setDone a).plen = a.plen := rfl
@[simp] theorem setDone_rlen (a : Arch) : (setDone a).rlen = a.rlen := rfl
@[simp] theorem setDone_ie (a : Arch) : (setDone a).ie = a.ie := rfl
@[simp] theorem setDone_busy (a : Arch) : (setDone a).busy = a.busy := rfl
@[simp] theorem setDone_done (a : Arch) : (setDone a).done = true := rfl
@[simp] theorem setDone_err (a : Arch) : (setDone a).err = a.err := rfl
@[simp] theorem setDone_accerr (a : Arch) : (setDone a).accerr = a.accerr := rfl
@[simp] theorem setDone_errcode (a : Arch) : (setDone a).errcode = a.errcode := rfl
@[simp] theorem setDone_pending (a : Arch) : (setDone a).pending = a.pending := rfl
@[simp] theorem setDone_inBuf (a : Arch) : (setDone a).inBuf = a.inBuf := rfl
@[simp] theorem setDone_outBuf (a : Arch) : (setDone a).outBuf = a.outBuf := rfl

/-! ## `setAccessError` -/

@[simp] theorem setAccessError_key (a : Arch) : (setAccessError a).key = a.key := rfl
@[simp] theorem setAccessError_keyCnt (a : Arch) : (setAccessError a).keyCnt = a.keyCnt := rfl
@[simp] theorem setAccessError_addr (a : Arch) : (setAccessError a).addr = a.addr := rfl
@[simp] theorem setAccessError_addrCnt (a : Arch) : (setAccessError a).addrCnt = a.addrCnt := rfl
@[simp] theorem setAccessError_fcnt (a : Arch) : (setAccessError a).fcnt = a.fcnt := rfl
@[simp] theorem setAccessError_dir (a : Arch) : (setAccessError a).dir = a.dir := rfl
@[simp] theorem setAccessError_plen (a : Arch) : (setAccessError a).plen = a.plen := rfl
@[simp] theorem setAccessError_rlen (a : Arch) : (setAccessError a).rlen = a.rlen := rfl
@[simp] theorem setAccessError_ie (a : Arch) : (setAccessError a).ie = a.ie := rfl
@[simp] theorem setAccessError_busy (a : Arch) : (setAccessError a).busy = a.busy := rfl
@[simp] theorem setAccessError_done (a : Arch) : (setAccessError a).done = a.done := rfl
@[simp] theorem setAccessError_err (a : Arch) : (setAccessError a).err = a.err := rfl
@[simp] theorem setAccessError_accerr (a : Arch) : (setAccessError a).accerr = true := rfl
@[simp] theorem setAccessError_errcode (a : Arch) : (setAccessError a).errcode = a.errcode := rfl
@[simp] theorem setAccessError_pending (a : Arch) : (setAccessError a).pending = a.pending := rfl
@[simp] theorem setAccessError_inBuf (a : Arch) : (setAccessError a).inBuf = a.inBuf := rfl
@[simp] theorem setAccessError_outBuf (a : Arch) : (setAccessError a).outBuf = a.outBuf := rfl

/-! ## `raiseCmdError` -/

@[simp] theorem raiseCmdError_key (c : ErrCode) (a : Arch) : (raiseCmdError c a).key = a.key := rfl
@[simp] theorem raiseCmdError_keyCnt (c : ErrCode) (a : Arch) : (raiseCmdError c a).keyCnt = a.keyCnt := rfl
@[simp] theorem raiseCmdError_addr (c : ErrCode) (a : Arch) : (raiseCmdError c a).addr = a.addr := rfl
@[simp] theorem raiseCmdError_addrCnt (c : ErrCode) (a : Arch) : (raiseCmdError c a).addrCnt = a.addrCnt := rfl
@[simp] theorem raiseCmdError_fcnt (c : ErrCode) (a : Arch) : (raiseCmdError c a).fcnt = a.fcnt := rfl
@[simp] theorem raiseCmdError_dir (c : ErrCode) (a : Arch) : (raiseCmdError c a).dir = a.dir := rfl
@[simp] theorem raiseCmdError_plen (c : ErrCode) (a : Arch) : (raiseCmdError c a).plen = a.plen := rfl
@[simp] theorem raiseCmdError_rlen (c : ErrCode) (a : Arch) : (raiseCmdError c a).rlen = a.rlen := rfl
@[simp] theorem raiseCmdError_ie (c : ErrCode) (a : Arch) : (raiseCmdError c a).ie = a.ie := rfl
@[simp] theorem raiseCmdError_busy (c : ErrCode) (a : Arch) : (raiseCmdError c a).busy = a.busy := rfl
@[simp] theorem raiseCmdError_done (c : ErrCode) (a : Arch) : (raiseCmdError c a).done = true := rfl
@[simp] theorem raiseCmdError_err (c : ErrCode) (a : Arch) : (raiseCmdError c a).err = true := rfl
@[simp] theorem raiseCmdError_accerr (c : ErrCode) (a : Arch) : (raiseCmdError c a).accerr = a.accerr := rfl
@[simp] theorem raiseCmdError_errcode (c : ErrCode) (a : Arch) : (raiseCmdError c a).errcode = c := rfl
@[simp] theorem raiseCmdError_pending (c : ErrCode) (a : Arch) : (raiseCmdError c a).pending = a.pending := rfl
@[simp] theorem raiseCmdError_inBuf (c : ErrCode) (a : Arch) : (raiseCmdError c a).inBuf = a.inBuf := rfl
@[simp] theorem raiseCmdError_outBuf (c : ErrCode) (a : Arch) : (raiseCmdError c a).outBuf = a.outBuf := rfl

/-! ## `startLong` -/

@[simp] theorem startLong_key (c : LongCmd) (a : Arch) : (startLong c a).key = a.key := rfl
@[simp] theorem startLong_keyCnt (c : LongCmd) (a : Arch) : (startLong c a).keyCnt = a.keyCnt := rfl
@[simp] theorem startLong_addr (c : LongCmd) (a : Arch) : (startLong c a).addr = a.addr := rfl
@[simp] theorem startLong_addrCnt (c : LongCmd) (a : Arch) : (startLong c a).addrCnt = a.addrCnt := rfl
@[simp] theorem startLong_fcnt (c : LongCmd) (a : Arch) : (startLong c a).fcnt = a.fcnt := rfl
@[simp] theorem startLong_dir (c : LongCmd) (a : Arch) : (startLong c a).dir = a.dir := rfl
@[simp] theorem startLong_plen (c : LongCmd) (a : Arch) : (startLong c a).plen = a.plen := rfl
@[simp] theorem startLong_rlen (c : LongCmd) (a : Arch) : (startLong c a).rlen = a.rlen := rfl
@[simp] theorem startLong_ie (c : LongCmd) (a : Arch) : (startLong c a).ie = a.ie := rfl
@[simp] theorem startLong_busy (c : LongCmd) (a : Arch) : (startLong c a).busy = true := rfl
@[simp] theorem startLong_done (c : LongCmd) (a : Arch) : (startLong c a).done = a.done := rfl
@[simp] theorem startLong_err (c : LongCmd) (a : Arch) : (startLong c a).err = a.err := rfl
@[simp] theorem startLong_accerr (c : LongCmd) (a : Arch) : (startLong c a).accerr = a.accerr := rfl
@[simp] theorem startLong_errcode (c : LongCmd) (a : Arch) : (startLong c a).errcode = a.errcode := rfl
@[simp] theorem startLong_pending (c : LongCmd) (a : Arch) : (startLong c a).pending = some c := rfl
@[simp] theorem startLong_inBuf (c : LongCmd) (a : Arch) : (startLong c a).inBuf = a.inBuf := rfl
@[simp] theorem startLong_outBuf (c : LongCmd) (a : Arch) : (startLong c a).outBuf = a.outBuf := rfl

/-! ## `clearKey` -/

@[simp] theorem clearKey_key (a : Arch) : (clearKey a).key = Vector.replicate 16 0x00#8 := rfl
@[simp] theorem clearKey_keyCnt (a : Arch) : (clearKey a).keyCnt = 0 := rfl
@[simp] theorem clearKey_addr (a : Arch) : (clearKey a).addr = a.addr := rfl
@[simp] theorem clearKey_addrCnt (a : Arch) : (clearKey a).addrCnt = a.addrCnt := rfl
@[simp] theorem clearKey_fcnt (a : Arch) : (clearKey a).fcnt = a.fcnt := rfl
@[simp] theorem clearKey_dir (a : Arch) : (clearKey a).dir = a.dir := rfl
@[simp] theorem clearKey_plen (a : Arch) : (clearKey a).plen = a.plen := rfl
@[simp] theorem clearKey_rlen (a : Arch) : (clearKey a).rlen = a.rlen := rfl
@[simp] theorem clearKey_ie (a : Arch) : (clearKey a).ie = a.ie := rfl
@[simp] theorem clearKey_busy (a : Arch) : (clearKey a).busy = a.busy := rfl
@[simp] theorem clearKey_done (a : Arch) : (clearKey a).done = true := rfl
@[simp] theorem clearKey_err (a : Arch) : (clearKey a).err = a.err := rfl
@[simp] theorem clearKey_accerr (a : Arch) : (clearKey a).accerr = a.accerr := rfl
@[simp] theorem clearKey_errcode (a : Arch) : (clearKey a).errcode = a.errcode := rfl
@[simp] theorem clearKey_pending (a : Arch) : (clearKey a).pending = a.pending := rfl
@[simp] theorem clearKey_inBuf (a : Arch) : (clearKey a).inBuf = a.inBuf := rfl
@[simp] theorem clearKey_outBuf (a : Arch) : (clearKey a).outBuf = a.outBuf := rfl

/-! ## `clearAddr` -/

@[simp] theorem clearAddr_key (a : Arch) : (clearAddr a).key = a.key := rfl
@[simp] theorem clearAddr_keyCnt (a : Arch) : (clearAddr a).keyCnt = a.keyCnt := rfl
@[simp] theorem clearAddr_addr (a : Arch) : (clearAddr a).addr = Vector.replicate 4 0x00#8 := rfl
@[simp] theorem clearAddr_addrCnt (a : Arch) : (clearAddr a).addrCnt = 0 := rfl
@[simp] theorem clearAddr_fcnt (a : Arch) : (clearAddr a).fcnt = a.fcnt := rfl
@[simp] theorem clearAddr_dir (a : Arch) : (clearAddr a).dir = a.dir := rfl
@[simp] theorem clearAddr_plen (a : Arch) : (clearAddr a).plen = a.plen := rfl
@[simp] theorem clearAddr_rlen (a : Arch) : (clearAddr a).rlen = a.rlen := rfl
@[simp] theorem clearAddr_ie (a : Arch) : (clearAddr a).ie = a.ie := rfl
@[simp] theorem clearAddr_busy (a : Arch) : (clearAddr a).busy = a.busy := rfl
@[simp] theorem clearAddr_done (a : Arch) : (clearAddr a).done = true := rfl
@[simp] theorem clearAddr_err (a : Arch) : (clearAddr a).err = a.err := rfl
@[simp] theorem clearAddr_accerr (a : Arch) : (clearAddr a).accerr = a.accerr := rfl
@[simp] theorem clearAddr_errcode (a : Arch) : (clearAddr a).errcode = a.errcode := rfl
@[simp] theorem clearAddr_pending (a : Arch) : (clearAddr a).pending = a.pending := rfl
@[simp] theorem clearAddr_inBuf (a : Arch) : (clearAddr a).inBuf = a.inBuf := rfl
@[simp] theorem clearAddr_outBuf (a : Arch) : (clearAddr a).outBuf = a.outBuf := rfl

/-! ## `writeResult` -/

@[simp] theorem writeResult_key (c : LongCmd) (a : Arch) : (writeResult c a).key = a.key := rfl
@[simp] theorem writeResult_keyCnt (c : LongCmd) (a : Arch) : (writeResult c a).keyCnt = a.keyCnt := rfl
@[simp] theorem writeResult_addr (c : LongCmd) (a : Arch) : (writeResult c a).addr = a.addr := rfl
@[simp] theorem writeResult_addrCnt (c : LongCmd) (a : Arch) : (writeResult c a).addrCnt = a.addrCnt := rfl
@[simp] theorem writeResult_fcnt (c : LongCmd) (a : Arch) : (writeResult c a).fcnt = a.fcnt := rfl
@[simp] theorem writeResult_dir (c : LongCmd) (a : Arch) : (writeResult c a).dir = a.dir := rfl
@[simp] theorem writeResult_plen (c : LongCmd) (a : Arch) : (writeResult c a).plen = a.plen := rfl
@[simp] theorem writeResult_rlen (c : LongCmd) (a : Arch) : (writeResult c a).rlen = resultLength a c := rfl
@[simp] theorem writeResult_ie (c : LongCmd) (a : Arch) : (writeResult c a).ie = a.ie := rfl
@[simp] theorem writeResult_busy (c : LongCmd) (a : Arch) : (writeResult c a).busy = a.busy := rfl
@[simp] theorem writeResult_done (c : LongCmd) (a : Arch) : (writeResult c a).done = a.done := rfl
@[simp] theorem writeResult_err (c : LongCmd) (a : Arch) : (writeResult c a).err = a.err := rfl
@[simp] theorem writeResult_accerr (c : LongCmd) (a : Arch) : (writeResult c a).accerr = a.accerr := rfl
@[simp] theorem writeResult_errcode (c : LongCmd) (a : Arch) : (writeResult c a).errcode = a.errcode := rfl
@[simp] theorem writeResult_pending (c : LongCmd) (a : Arch) : (writeResult c a).pending = a.pending := rfl
@[simp] theorem writeResult_inBuf (c : LongCmd) (a : Arch) : (writeResult c a).inBuf = a.inBuf := rfl
@[simp] theorem writeResult_outBuf (c : LongCmd) (a : Arch) : (writeResult c a).outBuf = a.outBuf.writeBytes 0 (resultBytes a c) := rfl

/-! ## The push registers change their own pair of elements -/

@[simp] theorem pushKey_addr (b : Byte) (a : Arch) : (pushKey b a).addr = a.addr := by
  unfold pushKey; split <;> rfl
@[simp] theorem pushKey_addrCnt (b : Byte) (a : Arch) : (pushKey b a).addrCnt = a.addrCnt := by
  unfold pushKey; split <;> rfl
@[simp] theorem pushKey_fcnt (b : Byte) (a : Arch) : (pushKey b a).fcnt = a.fcnt := by
  unfold pushKey; split <;> rfl
@[simp] theorem pushKey_dir (b : Byte) (a : Arch) : (pushKey b a).dir = a.dir := by
  unfold pushKey; split <;> rfl
@[simp] theorem pushKey_plen (b : Byte) (a : Arch) : (pushKey b a).plen = a.plen := by
  unfold pushKey; split <;> rfl
@[simp] theorem pushKey_rlen (b : Byte) (a : Arch) : (pushKey b a).rlen = a.rlen := by
  unfold pushKey; split <;> rfl
@[simp] theorem pushKey_ie (b : Byte) (a : Arch) : (pushKey b a).ie = a.ie := by
  unfold pushKey; split <;> rfl
@[simp] theorem pushKey_busy (b : Byte) (a : Arch) : (pushKey b a).busy = a.busy := by
  unfold pushKey; split <;> rfl
@[simp] theorem pushKey_done (b : Byte) (a : Arch) : (pushKey b a).done = a.done := by
  unfold pushKey; split <;> rfl
@[simp] theorem pushKey_err (b : Byte) (a : Arch) : (pushKey b a).err = a.err := by
  unfold pushKey; split <;> rfl
@[simp] theorem pushKey_accerr (b : Byte) (a : Arch) : (pushKey b a).accerr = a.accerr := by
  unfold pushKey; split <;> rfl
@[simp] theorem pushKey_errcode (b : Byte) (a : Arch) : (pushKey b a).errcode = a.errcode := by
  unfold pushKey; split <;> rfl
@[simp] theorem pushKey_pending (b : Byte) (a : Arch) : (pushKey b a).pending = a.pending := by
  unfold pushKey; split <;> rfl
@[simp] theorem pushKey_inBuf (b : Byte) (a : Arch) : (pushKey b a).inBuf = a.inBuf := by
  unfold pushKey; split <;> rfl
@[simp] theorem pushKey_outBuf (b : Byte) (a : Arch) : (pushKey b a).outBuf = a.outBuf := by
  unfold pushKey; split <;> rfl
@[simp] theorem pushAddr_key (b : Byte) (a : Arch) : (pushAddr b a).key = a.key := by
  unfold pushAddr; split <;> rfl
@[simp] theorem pushAddr_keyCnt (b : Byte) (a : Arch) : (pushAddr b a).keyCnt = a.keyCnt := by
  unfold pushAddr; split <;> rfl
@[simp] theorem pushAddr_fcnt (b : Byte) (a : Arch) : (pushAddr b a).fcnt = a.fcnt := by
  unfold pushAddr; split <;> rfl
@[simp] theorem pushAddr_dir (b : Byte) (a : Arch) : (pushAddr b a).dir = a.dir := by
  unfold pushAddr; split <;> rfl
@[simp] theorem pushAddr_plen (b : Byte) (a : Arch) : (pushAddr b a).plen = a.plen := by
  unfold pushAddr; split <;> rfl
@[simp] theorem pushAddr_rlen (b : Byte) (a : Arch) : (pushAddr b a).rlen = a.rlen := by
  unfold pushAddr; split <;> rfl
@[simp] theorem pushAddr_ie (b : Byte) (a : Arch) : (pushAddr b a).ie = a.ie := by
  unfold pushAddr; split <;> rfl
@[simp] theorem pushAddr_busy (b : Byte) (a : Arch) : (pushAddr b a).busy = a.busy := by
  unfold pushAddr; split <;> rfl
@[simp] theorem pushAddr_done (b : Byte) (a : Arch) : (pushAddr b a).done = a.done := by
  unfold pushAddr; split <;> rfl
@[simp] theorem pushAddr_err (b : Byte) (a : Arch) : (pushAddr b a).err = a.err := by
  unfold pushAddr; split <;> rfl
@[simp] theorem pushAddr_accerr (b : Byte) (a : Arch) : (pushAddr b a).accerr = a.accerr := by
  unfold pushAddr; split <;> rfl
@[simp] theorem pushAddr_errcode (b : Byte) (a : Arch) : (pushAddr b a).errcode = a.errcode := by
  unfold pushAddr; split <;> rfl
@[simp] theorem pushAddr_pending (b : Byte) (a : Arch) : (pushAddr b a).pending = a.pending := by
  unfold pushAddr; split <;> rfl
@[simp] theorem pushAddr_inBuf (b : Byte) (a : Arch) : (pushAddr b a).inBuf = a.inBuf := by
  unfold pushAddr; split <;> rfl
@[simp] theorem pushAddr_outBuf (b : Byte) (a : Arch) : (pushAddr b a).outBuf = a.outBuf := by
  unfold pushAddr; split <;> rfl

/-! ## `writeInWord` changes IN alone -/

@[simp] theorem writeInWord_key (c : Config) (k : Nat) (d : Word) (a : Arch) :
    (writeInWord c k d a).key = a.key := by unfold writeInWord; split <;> rfl
@[simp] theorem writeInWord_keyCnt (c : Config) (k : Nat) (d : Word) (a : Arch) :
    (writeInWord c k d a).keyCnt = a.keyCnt := by unfold writeInWord; split <;> rfl
@[simp] theorem writeInWord_addr (c : Config) (k : Nat) (d : Word) (a : Arch) :
    (writeInWord c k d a).addr = a.addr := by unfold writeInWord; split <;> rfl
@[simp] theorem writeInWord_addrCnt (c : Config) (k : Nat) (d : Word) (a : Arch) :
    (writeInWord c k d a).addrCnt = a.addrCnt := by unfold writeInWord; split <;> rfl
@[simp] theorem writeInWord_fcnt (c : Config) (k : Nat) (d : Word) (a : Arch) :
    (writeInWord c k d a).fcnt = a.fcnt := by unfold writeInWord; split <;> rfl
@[simp] theorem writeInWord_dir (c : Config) (k : Nat) (d : Word) (a : Arch) :
    (writeInWord c k d a).dir = a.dir := by unfold writeInWord; split <;> rfl
@[simp] theorem writeInWord_plen (c : Config) (k : Nat) (d : Word) (a : Arch) :
    (writeInWord c k d a).plen = a.plen := by unfold writeInWord; split <;> rfl
@[simp] theorem writeInWord_rlen (c : Config) (k : Nat) (d : Word) (a : Arch) :
    (writeInWord c k d a).rlen = a.rlen := by unfold writeInWord; split <;> rfl
@[simp] theorem writeInWord_ie (c : Config) (k : Nat) (d : Word) (a : Arch) :
    (writeInWord c k d a).ie = a.ie := by unfold writeInWord; split <;> rfl
@[simp] theorem writeInWord_busy (c : Config) (k : Nat) (d : Word) (a : Arch) :
    (writeInWord c k d a).busy = a.busy := by unfold writeInWord; split <;> rfl
@[simp] theorem writeInWord_done (c : Config) (k : Nat) (d : Word) (a : Arch) :
    (writeInWord c k d a).done = a.done := by unfold writeInWord; split <;> rfl
@[simp] theorem writeInWord_err (c : Config) (k : Nat) (d : Word) (a : Arch) :
    (writeInWord c k d a).err = a.err := by unfold writeInWord; split <;> rfl
@[simp] theorem writeInWord_accerr (c : Config) (k : Nat) (d : Word) (a : Arch) :
    (writeInWord c k d a).accerr = a.accerr := by unfold writeInWord; split <;> rfl
@[simp] theorem writeInWord_errcode (c : Config) (k : Nat) (d : Word) (a : Arch) :
    (writeInWord c k d a).errcode = a.errcode := by unfold writeInWord; split <;> rfl
@[simp] theorem writeInWord_pending (c : Config) (k : Nat) (d : Word) (a : Arch) :
    (writeInWord c k d a).pending = a.pending := by unfold writeInWord; split <;> rfl
@[simp] theorem writeInWord_outBuf (c : Config) (k : Nat) (d : Word) (a : Arch) :
    (writeInWord c k d a).outBuf = a.outBuf := by unfold writeInWord; split <;> rfl

/-! ## `complete` changes the status, the result and its length -/

@[simp] theorem complete_key (a : Arch) : (complete a).key = a.key := by
  unfold complete; cases a.pending <;> rfl
@[simp] theorem complete_keyCnt (a : Arch) : (complete a).keyCnt = a.keyCnt := by
  unfold complete; cases a.pending <;> rfl
@[simp] theorem complete_addr (a : Arch) : (complete a).addr = a.addr := by
  unfold complete; cases a.pending <;> rfl
@[simp] theorem complete_addrCnt (a : Arch) : (complete a).addrCnt = a.addrCnt := by
  unfold complete; cases a.pending <;> rfl
@[simp] theorem complete_fcnt (a : Arch) : (complete a).fcnt = a.fcnt := by
  unfold complete; cases a.pending <;> rfl
@[simp] theorem complete_dir (a : Arch) : (complete a).dir = a.dir := by
  unfold complete; cases a.pending <;> rfl
@[simp] theorem complete_plen (a : Arch) : (complete a).plen = a.plen := by
  unfold complete; cases a.pending <;> rfl
@[simp] theorem complete_ie (a : Arch) : (complete a).ie = a.ie := by
  unfold complete; cases a.pending <;> rfl
@[simp] theorem complete_busy (a : Arch) : (complete a).busy = false := by
  unfold complete; cases a.pending <;> rfl
@[simp] theorem complete_done (a : Arch) : (complete a).done = true := by
  unfold complete; cases a.pending <;> rfl
@[simp] theorem complete_err (a : Arch) : (complete a).err = a.err := by
  unfold complete; cases a.pending <;> rfl
@[simp] theorem complete_accerr (a : Arch) : (complete a).accerr = a.accerr := by
  unfold complete; cases a.pending <;> rfl
@[simp] theorem complete_errcode (a : Arch) : (complete a).errcode = a.errcode := by
  unfold complete; cases a.pending <;> rfl
@[simp] theorem complete_pending (a : Arch) : (complete a).pending = none := by
  unfold complete; cases a.pending <;> rfl
@[simp] theorem complete_inBuf (a : Arch) : (complete a).inBuf = a.inBuf := by
  unfold complete; cases a.pending <;> rfl
theorem complete_rlen (a : Arch) (c : LongCmd) (h : a.pending = some c) :
    (complete a).rlen = resultLength a c := by simp [complete, h]
theorem complete_outBuf (a : Arch) (c : LongCmd) (h : a.pending = some c) :
    (complete a).outBuf = a.outBuf.writeBytes 0 (resultBytes a c) := by simp [complete, h]

/-! ## The port and the whole state -/

/-- A run is over exactly when rule R349's two conditions hold. -/
theorem State.runOver_iff (s : State) :
    s.runOver = true ↔ (∀ i ∈ s.port.inputs, i.awaitsPort = false) ∧ s.arch.pending = none := by
  simp [State.runOver]

@[simp] theorem State.answered_cfg (s : State) (d : Word) : (s.answered d).cfg = s.cfg := rfl
@[simp] theorem State.answered_arch (s : State) (d : Word) : (s.answered d).arch = s.arch := rfl
@[simp] theorem State.answered_rst (s : State) (d : Word) : (s.answered d).port.rst = s.port.rst := rfl
@[simp] theorem State.answered_inputs (s : State) (d : Word) : (s.answered d).port.inputs = s.port.inputs := rfl
@[simp] theorem State.answered_reads (s : State) (d : Word) : (s.answered d).port.reads = s.port.reads ++ [d] := rfl
@[simp] theorem State.withArch_cfg (s : State) (a : Arch) : (s.withArch a).cfg = s.cfg := rfl
@[simp] theorem State.withArch_arch (s : State) (a : Arch) : (s.withArch a).arch = a := rfl
@[simp] theorem State.withArch_port (s : State) (a : Arch) : (s.withArch a).port = s.port := rfl
@[simp] theorem State.withArch_self (s : State) : s.withArch s.arch = s := rfl
@[simp] theorem popInput_cfg (s : State) (r : List Input) : (popInput s r).cfg = s.cfg := rfl
@[simp] theorem popInput_arch (s : State) (r : List Input) : (popInput s r).arch = s.arch := rfl
@[simp] theorem popInput_rst (s : State) (r : List Input) : (popInput s r).port.rst = s.port.rst := rfl
@[simp] theorem popInput_inputs (s : State) (r : List Input) : (popInput s r).port.inputs = r := rfl
@[simp] theorem popInput_reads (s : State) (r : List Input) : (popInput s r).port.reads = s.port.reads := rfl
@[simp] theorem pushInput_inputs (s : State) (i : Input) : (pushInput s i).port.inputs = i :: s.port.inputs := rfl
@[simp] theorem popInput_pushInput (s : State) (i : Input) : popInput (pushInput s i) s.port.inputs = s := rfl
@[simp] theorem assertReset_cfg (s : State) : (assertReset s).cfg = s.cfg := rfl
@[simp] theorem assertReset_arch (s : State) : (assertReset s).arch = Arch.reset := rfl
@[simp] theorem assertReset_rst (s : State) : (assertReset s).port.rst = true := rfl
@[simp] theorem releaseReset_cfg (s : State) : (releaseReset s).cfg = s.cfg := rfl
@[simp] theorem releaseReset_arch (s : State) : (releaseReset s).arch = s.arch := rfl
@[simp] theorem releaseReset_rst (s : State) : (releaseReset s).port.rst = false := rfl
@[simp] theorem resetArch_eq (a : Arch) : resetArch a = Arch.reset := rfl

end Sys2Proof.Machine
end

