-- ==== Sys2Proof/Laws/Ops.lean ====
section
/-! SUPPORT. What a transaction and a step can do, said once: a read answers, a soft reset resets, every other write is
`hostWrite` of one effect; a step is a transaction, the engine's turn, a change of the reset input, or nothing. -/

namespace Sys2Proof.Machine

/-! ## The shared host step -/

theorem hostRead_eq (s : State) (d : Word) :
    hostRead s d = s.answered (if s.port.rst then 0x00000000#32 else d) := rfl

theorem hostRead_open (s : State) (d : Word) (h : s.port.rst = false) : hostRead s d = s.answered d := by
  simp [hostRead_eq, h]

theorem hostWrite_held (s : State) (f : Arch → Arch) (h : s.port.rst = true) : hostWrite s f = s := by
  simp [hostWrite, h]

theorem hostWrite_busy (s : State) (f : Arch → Arch) (h : s.port.rst = false) (hb : s.arch.busy = true) :
    hostWrite s f = s.withArch (setAccessError s.arch) := by
  simp [hostWrite, h, hb, State.withArch]

theorem hostWrite_idle (s : State) (f : Arch → Arch) (h : s.acceptsWrites) :
    hostWrite s f = s.withArch (f s.arch) := by
  simp [hostWrite, h.1, h.2, State.withArch]

@[simp] theorem hostWrite_cfg (s : State) (f : Arch → Arch) : (hostWrite s f).cfg = s.cfg := by
  unfold hostWrite; split <;> [rfl; split <;> rfl]

@[simp] theorem hostWrite_port (s : State) (f : Arch → Arch) : (hostWrite s f).port = s.port := by
  unfold hostWrite; split <;> [rfl; split <;> rfl]

/-- What `hostWrite` leaves as the architectural state, in its three cases. -/
theorem hostWrite_arch_cases (s : State) (f : Arch → Arch) :
    (s.port.rst = true ∧ (hostWrite s f).arch = s.arch) ∨
    (s.port.rst = false ∧ s.arch.busy = true ∧ (hostWrite s f).arch = setAccessError s.arch) ∨
    (s.acceptsWrites ∧ (hostWrite s f).arch = f s.arch) := by
  cases hr : s.port.rst with
  | true => exact .inl ⟨rfl, by rw [hostWrite_held s f hr]⟩
  | false =>
    cases hb : s.arch.busy with
    | true => exact .inr (.inl ⟨rfl, rfl, by rw [hostWrite_busy s f hr hb]; rfl⟩)
    | false => exact .inr (.inr ⟨⟨hr, hb⟩, by rw [hostWrite_idle s f ⟨hr, hb⟩]; rfl⟩)

theorem hostSoftReset_open (s : State) (h : s.port.rst = false) : hostSoftReset s = s.withArch Arch.reset := by
  simp [hostSoftReset, h, State.withArch]

theorem hostSoftReset_held (s : State) (h : s.port.rst = true) : hostSoftReset s = s := by
  simp [hostSoftReset, h]

@[simp] theorem hostSoftReset_cfg (s : State) : (hostSoftReset s).cfg = s.cfg := by
  unfold hostSoftReset; split <;> rfl

@[simp] theorem hostSoftReset_port (s : State) : (hostSoftReset s).port = s.port := by
  unfold hostSoftReset; split <;> rfl

/-! ## Transactions -/

/-- What each write that takes effect does to the architectural state; a read has no effect, and a soft reset is not a
`hostWrite`. -/
def writeEffect (cfg : Config) : Instr → Arch → Arch
  | .wrStatus d => clearFlags d
  | .wrInten d => fun a => { a with ie := ieField d }
  | .wrKeyPush d => pushKey (pushByte d)
  | .wrAddrPush d => pushAddr (pushByte d)
  | .wrFcnt d => fun a => { a with fcnt := d }
  | .wrDir d => fun a => { a with dir := dirField d }
  | .wrPlen d => fun a => { a with plen := plenField d }
  | .wrIn k d => writeInWord cfg k.toNat d
  | .wrCmd c => issue cfg c
  | .crypt => fun a => issueCrypt cfg (beginCommand a)
  | .ecb => fun a => issueEcb (beginCommand a)
  | .ksgen => fun a => issueKsgen cfg (beginCommand a)
  | .clrkey => fun a => clearKey (beginCommand a)
  | .clraddr => fun a => clearAddr (beginCommand a)
  | .illegal _ => fun a => raiseCmdError .illegalCmd (beginCommand a)
  | .nop | .srst => fun a => a
  | .wrId _ | .wrKeyCnt _ | .wrAddrCnt _ | .wrRlen _ | .wrBufsz _ | .wrRsv000D _ | .wrRsv000E _ _
  | .wrRsv0010 _ _ | .wrRsv0020 _ _ | .wrRsv0040 _ _ | .wrRsv0080 _ _ | .wrRsv0100 _ _ | .wrRsv0200 _ _
  | .wrRsv0400 _ _ | .wrRsv0800 _ _ | .wrRsv1000 _ _ | .wrOut _ _ | .wrRsv6000 _ _ => fun a => a
  | .rdId | .rdCmd | .rdStatus | .rdInten | .rdKeyPush | .rdKeyCnt | .rdAddrPush | .rdAddrCnt | .rdFcnt
  | .rdDir | .rdPlen | .rdRlen | .rdBufsz | .rdRsv000D | .rdRsv000E _ | .rdRsv0010 _ | .rdRsv0020 _
  | .rdRsv0040 _ | .rdRsv0080 _ | .rdRsv0100 _ | .rdRsv0200 _ | .rdRsv0400 _ | .rdRsv0800 _ | .rdRsv1000 _
  | .rdIn _ | .rdOut _ | .rdRsv6000 _ => fun a => a

/-- A read answers with one word, which the port's record and the inputs to come do not affect. -/
theorem exec_read (i : Instr) (h : i.isRead = true) : ∃ val : Config → Arch → Word,
    ∀ s : State, exec i s = .next (hostRead s (val s.cfg s.arch)) := by
  cases i <;> first
    | (simp [Instr.isRead] at h; done)
    | exact ⟨fun _ a => statusWord a, fun _ => rfl⟩
    | exact ⟨fun _ a => (BitVec.ofBool a.ie).setWidth 32, fun _ => rfl⟩
    | exact ⟨fun _ a => BitVec.ofNat 32 a.keyCnt.val, fun _ => rfl⟩
    | exact ⟨fun _ a => BitVec.ofNat 32 a.addrCnt.val, fun _ => rfl⟩
    | exact ⟨fun _ a => a.fcnt, fun _ => rfl⟩
    | exact ⟨fun _ a => a.dir.setWidth 32, fun _ => rfl⟩
    | exact ⟨fun _ a => a.plen.setWidth 32, fun _ => rfl⟩
    | exact ⟨fun _ a => a.rlen.setWidth 32, fun _ => rfl⟩
    | exact ⟨fun c _ => BitVec.ofNat 32 c.bufBytes, fun _ => rfl⟩
    | exact ⟨fun _ _ => Config.idValue, fun _ => rfl⟩
    | exact ⟨fun _ _ => 0x00000000#32, fun _ => rfl⟩
    | exact ⟨fun c a => inWindowWord ⟨c, a, ⟨false, [], []⟩⟩ (BitVec.toNat ‹_›), fun _ => rfl⟩
    | exact ⟨fun c a => outWindowWord ⟨c, a, ⟨false, [], []⟩⟩ (BitVec.toNat ‹_›), fun _ => rfl⟩

/-- A soft reset is `hostSoftReset`. -/
theorem exec_softReset (i : Instr) (s : State) (h : i.isSoftReset = true) :
    exec i s = .next (hostSoftReset s) := by
  cases i <;> first
    | rfl
    | (simp [Instr.isSoftReset] at h; done)
    | (simp only [Instr.isSoftReset, beq_iff_eq] at h; simp [exec, execWrCmd, h])

/-- Every other transaction that is no read is `hostWrite` of its effect. -/
theorem exec_write (i : Instr) (s : State) (hr : i.isRead = false) (hs : i.isSoftReset = false) :
    exec i s = .next (hostWrite s (writeEffect s.cfg i)) := by
  cases i <;> first
    | rfl
    | (simp [Instr.isRead] at hr; done)
    | (simp [Instr.isSoftReset] at hs; done)
    | (simp only [Instr.isSoftReset, beq_eq_false_iff_ne, ne_eq] at hs; simp [exec, execWrCmd, hs, writeEffect])

/-- A transaction is a read, a soft reset, or a write. -/
theorem Instr_kinds (i : Instr) :
    i.isRead = true ∨ i.isSoftReset = true ∨ (i.isRead = false ∧ i.isSoftReset = false) := by
  cases hr : i.isRead <;> cases hs : i.isSoftReset <;> simp

/-- What a transaction leaves: it never touches the parameter, the inputs to come or the reset input, and its
architectural state is the old one (a read, or held in reset), the reset one (a soft reset), the old one with `ACCERR`
(a write while busy), or its effect (a write while idle). -/
theorem exec_cases (i : Instr) {s t : State} (h : exec i s = .next t) :
    t.cfg = s.cfg ∧ t.port.inputs = s.port.inputs ∧ t.port.rst = s.port.rst ∧
    ((t.arch = s.arch ∧ (i.isRead = true ∨ s.port.rst = true)) ∨
     (i.isSoftReset = true ∧ s.port.rst = false ∧ t.arch = Arch.reset) ∨
     (i.isRead = false ∧ i.isSoftReset = false ∧ s.port.rst = false ∧ s.arch.busy = true ∧
       t.arch = setAccessError s.arch) ∨
     (i.isRead = false ∧ i.isSoftReset = false ∧ s.acceptsWrites ∧ t.arch = writeEffect s.cfg i s.arch)) := by
  rcases Instr_kinds i with hr | hs | ⟨hr, hs⟩
  · obtain ⟨v, hv⟩ := exec_read i hr
    rw [hv] at h
    cases h
    exact ⟨rfl, rfl, rfl, .inl ⟨rfl, .inl hr⟩⟩
  · rw [exec_softReset i s hs] at h
    cases h
    refine ⟨by simp, by simp, by simp, ?_⟩
    cases hrst : s.port.rst
    · exact .inr (.inl ⟨hs, rfl, by rw [hostSoftReset_open s hrst]; rfl⟩)
    · exact .inl ⟨by rw [hostSoftReset_held s hrst], .inr rfl⟩
  · rw [exec_write i s hr hs] at h
    cases h
    refine ⟨by simp, by simp, by simp, ?_⟩
    rcases hostWrite_arch_cases s (writeEffect s.cfg i) with ⟨a, b⟩ | ⟨a, b, c⟩ | ⟨a, b⟩
    · exact .inl ⟨b, .inr a⟩
    · exact .inr (.inr (.inl ⟨hr, hs, a, b, c⟩))
    · exact .inr (.inr (.inr ⟨hr, hs, a, b⟩))

/-! ## Steps -/

/-- What one step can be: a transaction, the engine's turn, a change of the reset input's level, or an access that does
not reach the port. -/
theorem step_cases {s t : State} (h : step s = .next t) :
    (∃ i rest, s.nextInstr = some i ∧ exec i (popInput s rest) = .next t) ∨
    (s.nextIsEngine = true ∧ (t = engineTurn s ∨ ∃ rest, t = engineTurn (popInput s rest))) ∨
    (s.nextAssertsReset = true ∧ ∃ rest, t = assertReset (popInput s rest)) ∨
    (∃ rest, t = releaseReset (popInput s rest)) ∨
    (∃ rest, t = popInput s rest) := by
  unfold step takeTurn at h
  cases hi : s.port.inputs with
  | nil =>
    rw [hi] at h
    exact .inr (.inl ⟨by simp [State.nextIsEngine, hi], .inl (by simpa using h.symm)⟩)
  | cons x rest =>
    rw [hi] at h
    cases x with
    | host e => exact .inl ⟨decode e, rest, by simp [State.nextInstr, hi], h⟩
    | engine => exact .inr (.inl ⟨by simp [State.nextIsEngine, hi], .inr ⟨rest, by simpa [inputTurn] using h.symm⟩⟩)
    | rst l =>
      cases l with
      | true =>
        exact .inr (.inr (.inl ⟨by simp [State.nextAssertsReset, hi], rest, by simpa [inputTurn] using h.symm⟩))
      | false => exact .inr (.inr (.inr (.inl ⟨rest, by simpa [inputTurn] using h.symm⟩)))
    | access a =>
      simp only [inputTurn, accessTurn] at h
      cases hr : a.reachesPort with
      | false => exact .inr (.inr (.inr (.inr ⟨rest, by simpa [hr] using h.symm⟩)))
      | true =>
        cases hw : a.isPortWord with
        | false => simp [hr, hw] at h
        | true =>
          refine .inl ⟨decode a.transaction, rest, by simp [State.nextInstr, hi, hr, hw], ?_⟩
          simpa [hr, hw, hostTurn] using h

/-- A run takes its first step and goes on. -/
theorem run_succ (M : Host.Core) {s t : M.State} (h : M.step s = .next t) (k : Nat) :
    M.run (k + 1) s = M.run k t := by
  simp only [Host.Core.run, h]

/-- A run of this machine takes its first step and goes on. -/
theorem core_run_succ {s t : State} (h : step s = .next t) (k : Nat) : core.run (k + 1) s = core.run k t :=
  run_succ core h k

/-- A run of no step. -/
theorem core_run_zero (s : State) : core.run 0 s = .next s := rfl

/-- The engine's turn touches neither the parameter nor the port. -/
@[simp] theorem engineTurn_cfg (s : State) : (engineTurn s).cfg = s.cfg := by
  unfold engineTurn; split <;> rfl

@[simp] theorem engineTurn_port (s : State) : (engineTurn s).port = s.port := by
  unfold engineTurn; split <;> rfl

theorem engineTurn_busy (s : State) (h : s.arch.busy = true) : engineTurn s = s.withArch (complete s.arch) := by
  simp [engineTurn, h, State.withArch]

theorem engineTurn_idle (s : State) (h : s.arch.busy = false) : engineTurn s = s := by
  simp [engineTurn, h]

/-- `startChecked` in its two cases. -/
theorem startChecked_cases (f : Option ErrCode) (c : LongCmd) (a : Arch) :
    (∃ e, f = some e ∧ startChecked f c a = raiseCmdError e a) ∨ (f = none ∧ startChecked f c a = startLong c a) := by
  cases f with
  | none => exact .inr ⟨rfl, rfl⟩
  | some e => exact .inl ⟨e, rfl, rfl⟩

/-- The checks of CRYPT and KSGEN pass exactly on loaded operands (rule R301). -/
theorem payloadCheck_none (cfg : Config) (a : Arch) :
    payloadCheck cfg a = none ↔ a.keyCnt = 16 ∧ a.addrCnt = 4 ∧ a.plen.toNat ≤ cfg.bufBytes := by
  unfold payloadCheck
  split
  · simp_all
  · split
    · simp_all
    · split <;> simp_all

/-- No check reports the code of no error. -/
theorem payloadCheck_ne_none (cfg : Config) (a : Arch) : payloadCheck cfg a ≠ some .none := by
  unfold payloadCheck
  split <;> [simp; split <;> [simp; split <;> simp]]

/-- The check of ECB passes exactly with a whole key (rule R301). -/
theorem keyCheck_none (a : Arch) : keyCheck a = none ↔ a.keyCnt = 16 := by
  unfold keyCheck
  split <;> simp_all

theorem keyCheck_ne_none (a : Arch) : keyCheck a ≠ some .none := by
  unfold keyCheck
  split <;> simp

end Sys2Proof.Machine
end

