-- ==== Sys2Proof/Laws/PerInstr.lean ====
section
/-! SUPPORT. The statements made per instruction: the encoder's word carries the bits of the opcode-table row its
constructor stands for. -/

namespace Sys2Proof.Laws

/-- The low `k` bits cleared leave a number's quotient by `2^k`, at its place. -/
theorem land_high (k m x : Nat) (h : x < 2 ^ (m + k)) : x &&& ((2 ^ m - 1) * 2 ^ k) = x / 2 ^ k * 2 ^ k := by
  apply Nat.eq_of_testBit_eq
  intro j
  rw [Nat.testBit_and, Nat.testBit_mul_two_pow, Nat.testBit_mul_two_pow, Nat.testBit_div_two_pow,
    Nat.testBit_two_pow_sub_one]
  by_cases hk : k ≤ j
  · by_cases hm : j - k < m
    · simp [hk, hm]
    · have : x.testBit j = false := Nat.testBit_lt_two_pow
        (Nat.lt_of_lt_of_le h (Nat.pow_le_pow_right (by decide) (by omega)))
      simp [hk, hm, this]
  · simp [hk]

/-- A transaction as a number (rule R121). -/
theorem busWord_toNat (we : Bool) (widx : BitVec 15) (d : Word) :
    (busWord we widx d).toNat = we.toNat * 2 ^ 47 + widx.toNat * 2 ^ 32 + d.toNat := by
  have hw := widx.isLt
  have hd := d.isLt
  simp only [busWord, BitVec.toNat_append, BitVec.toNat_ofBool]
  rw [← Nat.shiftLeft_add_eq_or_of_lt hd, ← Nat.shiftLeft_add_eq_or_of_lt hw]
  simp only [Nat.shiftLeft_eq]
  omega

/-- A leading constant and a low part, as a number. -/
theorem append_toNat {a b : Nat} (x : BitVec a) (y : BitVec b) : (x ++ y).toNat = x.toNat * 2 ^ b + y.toNat := by
  rw [BitVec.toNat_append, ← Nat.shiftLeft_add_eq_or_of_lt y.isLt, Nat.shiftLeft_eq]

/-- A row whose mask leaves the low `k` bits of a transaction open holds for every word of its range. -/
theorem busWord_matches (we : Bool) (widx : BitVec 15) (d : Word) (k q : Nat) (hk : 32 ≤ k ∧ k ≤ 48)
    (h : (we.toNat * 2 ^ 47 + widx.toNat * 2 ^ 32 + d.toNat) / 2 ^ k = q) :
    (busWord we widx d).toNat &&& ((2 ^ (48 - k) - 1) * 2 ^ k) = q * 2 ^ k := by
  rw [land_high k (48 - k) _ (by rw [show 48 - k + k = 48 by omega]; exact (busWord we widx d).isLt),
    busWord_toNat, h]

/-- The encoder's word has the length of the row's format and the row's bits under the row's mask. -/
def MatchesOpcodeRow.Statement (i : Instr) : Prop :=
  (encode i).nbits = (opcodeRow i).nbits ∧ (encode i).bits &&& (opcodeRow i).mask = (opcodeRow i).word

theorem MatchesOpcodeRow.rdId : MatchesOpcodeRow.Statement .rdId := ⟨rfl, by decide⟩
theorem MatchesOpcodeRow.rdCmd : MatchesOpcodeRow.Statement .rdCmd := ⟨rfl, by decide⟩
theorem MatchesOpcodeRow.rdStatus : MatchesOpcodeRow.Statement .rdStatus := ⟨rfl, by decide⟩
theorem MatchesOpcodeRow.rdInten : MatchesOpcodeRow.Statement .rdInten := ⟨rfl, by decide⟩
theorem MatchesOpcodeRow.rdKeyPush : MatchesOpcodeRow.Statement .rdKeyPush := ⟨rfl, by decide⟩
theorem MatchesOpcodeRow.rdKeyCnt : MatchesOpcodeRow.Statement .rdKeyCnt := ⟨rfl, by decide⟩
theorem MatchesOpcodeRow.rdAddrPush : MatchesOpcodeRow.Statement .rdAddrPush := ⟨rfl, by decide⟩
theorem MatchesOpcodeRow.rdAddrCnt : MatchesOpcodeRow.Statement .rdAddrCnt := ⟨rfl, by decide⟩
theorem MatchesOpcodeRow.rdFcnt : MatchesOpcodeRow.Statement .rdFcnt := ⟨rfl, by decide⟩
theorem MatchesOpcodeRow.rdDir : MatchesOpcodeRow.Statement .rdDir := ⟨rfl, by decide⟩
theorem MatchesOpcodeRow.rdPlen : MatchesOpcodeRow.Statement .rdPlen := ⟨rfl, by decide⟩
theorem MatchesOpcodeRow.rdRlen : MatchesOpcodeRow.Statement .rdRlen := ⟨rfl, by decide⟩
theorem MatchesOpcodeRow.rdBufsz : MatchesOpcodeRow.Statement .rdBufsz := ⟨rfl, by decide⟩
theorem MatchesOpcodeRow.rdRsv000D : MatchesOpcodeRow.Statement .rdRsv000D := ⟨rfl, by decide⟩
theorem MatchesOpcodeRow.rdRsv000E (o : BitVec 1) : MatchesOpcodeRow.Statement (.rdRsv000E o) :=
  ⟨rfl, busWord_matches false (0x7#14 ++ o) 0#32 33 7 (by decide) (by
    have := o.isLt
    rw [append_toNat]
    simp only [Bool.toNat_false, BitVec.toNat_ofNat]
    omega)⟩
theorem MatchesOpcodeRow.rdRsv0010 (o : BitVec 4) : MatchesOpcodeRow.Statement (.rdRsv0010 o) :=
  ⟨rfl, busWord_matches false (0x1#11 ++ o) 0#32 36 1 (by decide) (by
    have := o.isLt
    rw [append_toNat]
    simp only [Bool.toNat_false, BitVec.toNat_ofNat]
    omega)⟩
theorem MatchesOpcodeRow.rdRsv0020 (o : BitVec 5) : MatchesOpcodeRow.Statement (.rdRsv0020 o) :=
  ⟨rfl, busWord_matches false (0x1#10 ++ o) 0#32 37 1 (by decide) (by
    have := o.isLt
    rw [append_toNat]
    simp only [Bool.toNat_false, BitVec.toNat_ofNat]
    omega)⟩
theorem MatchesOpcodeRow.rdRsv0040 (o : BitVec 6) : MatchesOpcodeRow.Statement (.rdRsv0040 o) :=
  ⟨rfl, busWord_matches false (0x1#9 ++ o) 0#32 38 1 (by decide) (by
    have := o.isLt
    rw [append_toNat]
    simp only [Bool.toNat_false, BitVec.toNat_ofNat]
    omega)⟩
theorem MatchesOpcodeRow.rdRsv0080 (o : BitVec 7) : MatchesOpcodeRow.Statement (.rdRsv0080 o) :=
  ⟨rfl, busWord_matches false (0x1#8 ++ o) 0#32 39 1 (by decide) (by
    have := o.isLt
    rw [append_toNat]
    simp only [Bool.toNat_false, BitVec.toNat_ofNat]
    omega)⟩
theorem MatchesOpcodeRow.rdRsv0100 (o : BitVec 8) : MatchesOpcodeRow.Statement (.rdRsv0100 o) :=
  ⟨rfl, busWord_matches false (0x1#7 ++ o) 0#32 40 1 (by decide) (by
    have := o.isLt
    rw [append_toNat]
    simp only [Bool.toNat_false, BitVec.toNat_ofNat]
    omega)⟩
theorem MatchesOpcodeRow.rdRsv0200 (o : BitVec 9) : MatchesOpcodeRow.Statement (.rdRsv0200 o) :=
  ⟨rfl, busWord_matches false (0x1#6 ++ o) 0#32 41 1 (by decide) (by
    have := o.isLt
    rw [append_toNat]
    simp only [Bool.toNat_false, BitVec.toNat_ofNat]
    omega)⟩
theorem MatchesOpcodeRow.rdRsv0400 (o : BitVec 10) : MatchesOpcodeRow.Statement (.rdRsv0400 o) :=
  ⟨rfl, busWord_matches false (0x1#5 ++ o) 0#32 42 1 (by decide) (by
    have := o.isLt
    rw [append_toNat]
    simp only [Bool.toNat_false, BitVec.toNat_ofNat]
    omega)⟩
theorem MatchesOpcodeRow.rdRsv0800 (o : BitVec 11) : MatchesOpcodeRow.Statement (.rdRsv0800 o) :=
  ⟨rfl, busWord_matches false (0x1#4 ++ o) 0#32 43 1 (by decide) (by
    have := o.isLt
    rw [append_toNat]
    simp only [Bool.toNat_false, BitVec.toNat_ofNat]
    omega)⟩
theorem MatchesOpcodeRow.rdRsv1000 (o : BitVec 12) : MatchesOpcodeRow.Statement (.rdRsv1000 o) :=
  ⟨rfl, busWord_matches false (0x1#3 ++ o) 0#32 44 1 (by decide) (by
    have := o.isLt
    rw [append_toNat]
    simp only [Bool.toNat_false, BitVec.toNat_ofNat]
    omega)⟩
theorem MatchesOpcodeRow.rdIn (k : BitVec 13) : MatchesOpcodeRow.Statement (.rdIn k) :=
  ⟨rfl, busWord_matches false (0x1#2 ++ k) 0#32 45 1 (by decide) (by
    have := k.isLt
    rw [append_toNat]
    simp only [Bool.toNat_false, BitVec.toNat_ofNat]
    omega)⟩
theorem MatchesOpcodeRow.rdOut (k : BitVec 13) : MatchesOpcodeRow.Statement (.rdOut k) :=
  ⟨rfl, busWord_matches false (0x2#2 ++ k) 0#32 45 2 (by decide) (by
    have := k.isLt
    rw [append_toNat]
    simp only [Bool.toNat_false, BitVec.toNat_ofNat]
    omega)⟩
theorem MatchesOpcodeRow.rdRsv6000 (o : BitVec 13) : MatchesOpcodeRow.Statement (.rdRsv6000 o) :=
  ⟨rfl, busWord_matches false (0x3#2 ++ o) 0#32 45 3 (by decide) (by
    have := o.isLt
    rw [append_toNat]
    simp only [Bool.toNat_false, BitVec.toNat_ofNat]
    omega)⟩
theorem MatchesOpcodeRow.wrId (d : Word) : MatchesOpcodeRow.Statement (.wrId d) :=
  ⟨rfl, busWord_matches true 0x0000#15 d 32 32768 (by decide) (by
    have := d.isLt
    simp only [Bool.toNat_true, BitVec.toNat_ofNat]
    omega)⟩
theorem MatchesOpcodeRow.wrCmd (c : Word) : MatchesOpcodeRow.Statement (.wrCmd c) :=
  ⟨rfl, busWord_matches true 0x0001#15 c 32 32769 (by decide) (by
    have := c.isLt
    simp only [Bool.toNat_true, BitVec.toNat_ofNat]
    omega)⟩
theorem MatchesOpcodeRow.wrStatus (d : Word) : MatchesOpcodeRow.Statement (.wrStatus d) :=
  ⟨rfl, busWord_matches true 0x0002#15 d 32 32770 (by decide) (by
    have := d.isLt
    simp only [Bool.toNat_true, BitVec.toNat_ofNat]
    omega)⟩
theorem MatchesOpcodeRow.wrInten (d : Word) : MatchesOpcodeRow.Statement (.wrInten d) :=
  ⟨rfl, busWord_matches true 0x0003#15 d 32 32771 (by decide) (by
    have := d.isLt
    simp only [Bool.toNat_true, BitVec.toNat_ofNat]
    omega)⟩
theorem MatchesOpcodeRow.wrKeyPush (d : Word) : MatchesOpcodeRow.Statement (.wrKeyPush d) :=
  ⟨rfl, busWord_matches true 0x0004#15 d 32 32772 (by decide) (by
    have := d.isLt
    simp only [Bool.toNat_true, BitVec.toNat_ofNat]
    omega)⟩
theorem MatchesOpcodeRow.wrKeyCnt (d : Word) : MatchesOpcodeRow.Statement (.wrKeyCnt d) :=
  ⟨rfl, busWord_matches true 0x0005#15 d 32 32773 (by decide) (by
    have := d.isLt
    simp only [Bool.toNat_true, BitVec.toNat_ofNat]
    omega)⟩
theorem MatchesOpcodeRow.wrAddrPush (d : Word) : MatchesOpcodeRow.Statement (.wrAddrPush d) :=
  ⟨rfl, busWord_matches true 0x0006#15 d 32 32774 (by decide) (by
    have := d.isLt
    simp only [Bool.toNat_true, BitVec.toNat_ofNat]
    omega)⟩
theorem MatchesOpcodeRow.wrAddrCnt (d : Word) : MatchesOpcodeRow.Statement (.wrAddrCnt d) :=
  ⟨rfl, busWord_matches true 0x0007#15 d 32 32775 (by decide) (by
    have := d.isLt
    simp only [Bool.toNat_true, BitVec.toNat_ofNat]
    omega)⟩
theorem MatchesOpcodeRow.wrFcnt (d : Word) : MatchesOpcodeRow.Statement (.wrFcnt d) :=
  ⟨rfl, busWord_matches true 0x0008#15 d 32 32776 (by decide) (by
    have := d.isLt
    simp only [Bool.toNat_true, BitVec.toNat_ofNat]
    omega)⟩
theorem MatchesOpcodeRow.wrDir (d : Word) : MatchesOpcodeRow.Statement (.wrDir d) :=
  ⟨rfl, busWord_matches true 0x0009#15 d 32 32777 (by decide) (by
    have := d.isLt
    simp only [Bool.toNat_true, BitVec.toNat_ofNat]
    omega)⟩
theorem MatchesOpcodeRow.wrPlen (d : Word) : MatchesOpcodeRow.Statement (.wrPlen d) :=
  ⟨rfl, busWord_matches true 0x000A#15 d 32 32778 (by decide) (by
    have := d.isLt
    simp only [Bool.toNat_true, BitVec.toNat_ofNat]
    omega)⟩
theorem MatchesOpcodeRow.wrRlen (d : Word) : MatchesOpcodeRow.Statement (.wrRlen d) :=
  ⟨rfl, busWord_matches true 0x000B#15 d 32 32779 (by decide) (by
    have := d.isLt
    simp only [Bool.toNat_true, BitVec.toNat_ofNat]
    omega)⟩
theorem MatchesOpcodeRow.wrBufsz (d : Word) : MatchesOpcodeRow.Statement (.wrBufsz d) :=
  ⟨rfl, busWord_matches true 0x000C#15 d 32 32780 (by decide) (by
    have := d.isLt
    simp only [Bool.toNat_true, BitVec.toNat_ofNat]
    omega)⟩
theorem MatchesOpcodeRow.wrRsv000D (d : Word) : MatchesOpcodeRow.Statement (.wrRsv000D d) :=
  ⟨rfl, busWord_matches true 0x000D#15 d 32 32781 (by decide) (by
    have := d.isLt
    simp only [Bool.toNat_true, BitVec.toNat_ofNat]
    omega)⟩
theorem MatchesOpcodeRow.wrRsv000E (o : BitVec 1) (d : Word) : MatchesOpcodeRow.Statement (.wrRsv000E o d) :=
  ⟨rfl, busWord_matches true (0x7#14 ++ o) d 33 16391 (by decide) (by
    have := o.isLt
    have := d.isLt
    rw [append_toNat]
    simp only [Bool.toNat_true, BitVec.toNat_ofNat]
    omega)⟩
theorem MatchesOpcodeRow.wrRsv0010 (o : BitVec 4) (d : Word) : MatchesOpcodeRow.Statement (.wrRsv0010 o d) :=
  ⟨rfl, busWord_matches true (0x1#11 ++ o) d 36 2049 (by decide) (by
    have := o.isLt
    have := d.isLt
    rw [append_toNat]
    simp only [Bool.toNat_true, BitVec.toNat_ofNat]
    omega)⟩
theorem MatchesOpcodeRow.wrRsv0020 (o : BitVec 5) (d : Word) : MatchesOpcodeRow.Statement (.wrRsv0020 o d) :=
  ⟨rfl, busWord_matches true (0x1#10 ++ o) d 37 1025 (by decide) (by
    have := o.isLt
    have := d.isLt
    rw [append_toNat]
    simp only [Bool.toNat_true, BitVec.toNat_ofNat]
    omega)⟩
theorem MatchesOpcodeRow.wrRsv0040 (o : BitVec 6) (d : Word) : MatchesOpcodeRow.Statement (.wrRsv0040 o d) :=
  ⟨rfl, busWord_matches true (0x1#9 ++ o) d 38 513 (by decide) (by
    have := o.isLt
    have := d.isLt
    rw [append_toNat]
    simp only [Bool.toNat_true, BitVec.toNat_ofNat]
    omega)⟩
theorem MatchesOpcodeRow.wrRsv0080 (o : BitVec 7) (d : Word) : MatchesOpcodeRow.Statement (.wrRsv0080 o d) :=
  ⟨rfl, busWord_matches true (0x1#8 ++ o) d 39 257 (by decide) (by
    have := o.isLt
    have := d.isLt
    rw [append_toNat]
    simp only [Bool.toNat_true, BitVec.toNat_ofNat]
    omega)⟩
theorem MatchesOpcodeRow.wrRsv0100 (o : BitVec 8) (d : Word) : MatchesOpcodeRow.Statement (.wrRsv0100 o d) :=
  ⟨rfl, busWord_matches true (0x1#7 ++ o) d 40 129 (by decide) (by
    have := o.isLt
    have := d.isLt
    rw [append_toNat]
    simp only [Bool.toNat_true, BitVec.toNat_ofNat]
    omega)⟩
theorem MatchesOpcodeRow.wrRsv0200 (o : BitVec 9) (d : Word) : MatchesOpcodeRow.Statement (.wrRsv0200 o d) :=
  ⟨rfl, busWord_matches true (0x1#6 ++ o) d 41 65 (by decide) (by
    have := o.isLt
    have := d.isLt
    rw [append_toNat]
    simp only [Bool.toNat_true, BitVec.toNat_ofNat]
    omega)⟩
theorem MatchesOpcodeRow.wrRsv0400 (o : BitVec 10) (d : Word) : MatchesOpcodeRow.Statement (.wrRsv0400 o d) :=
  ⟨rfl, busWord_matches true (0x1#5 ++ o) d 42 33 (by decide) (by
    have := o.isLt
    have := d.isLt
    rw [append_toNat]
    simp only [Bool.toNat_true, BitVec.toNat_ofNat]
    omega)⟩
theorem MatchesOpcodeRow.wrRsv0800 (o : BitVec 11) (d : Word) : MatchesOpcodeRow.Statement (.wrRsv0800 o d) :=
  ⟨rfl, busWord_matches true (0x1#4 ++ o) d 43 17 (by decide) (by
    have := o.isLt
    have := d.isLt
    rw [append_toNat]
    simp only [Bool.toNat_true, BitVec.toNat_ofNat]
    omega)⟩
theorem MatchesOpcodeRow.wrRsv1000 (o : BitVec 12) (d : Word) : MatchesOpcodeRow.Statement (.wrRsv1000 o d) :=
  ⟨rfl, busWord_matches true (0x1#3 ++ o) d 44 9 (by decide) (by
    have := o.isLt
    have := d.isLt
    rw [append_toNat]
    simp only [Bool.toNat_true, BitVec.toNat_ofNat]
    omega)⟩
theorem MatchesOpcodeRow.wrIn (k : BitVec 13) (d : Word) : MatchesOpcodeRow.Statement (.wrIn k d) :=
  ⟨rfl, busWord_matches true (0x1#2 ++ k) d 45 5 (by decide) (by
    have := k.isLt
    have := d.isLt
    rw [append_toNat]
    simp only [Bool.toNat_true, BitVec.toNat_ofNat]
    omega)⟩
theorem MatchesOpcodeRow.wrOut (k : BitVec 13) (d : Word) : MatchesOpcodeRow.Statement (.wrOut k d) :=
  ⟨rfl, busWord_matches true (0x2#2 ++ k) d 45 6 (by decide) (by
    have := k.isLt
    have := d.isLt
    rw [append_toNat]
    simp only [Bool.toNat_true, BitVec.toNat_ofNat]
    omega)⟩
theorem MatchesOpcodeRow.wrRsv6000 (o : BitVec 13) (d : Word) : MatchesOpcodeRow.Statement (.wrRsv6000 o d) :=
  ⟨rfl, busWord_matches true (0x3#2 ++ o) d 45 7 (by decide) (by
    have := o.isLt
    have := d.isLt
    rw [append_toNat]
    simp only [Bool.toNat_true, BitVec.toNat_ofNat]
    omega)⟩
theorem MatchesOpcodeRow.nop : MatchesOpcodeRow.Statement .nop := ⟨rfl, by decide⟩
theorem MatchesOpcodeRow.crypt : MatchesOpcodeRow.Statement .crypt := ⟨rfl, by decide⟩
theorem MatchesOpcodeRow.ecb : MatchesOpcodeRow.Statement .ecb := ⟨rfl, by decide⟩
theorem MatchesOpcodeRow.ksgen : MatchesOpcodeRow.Statement .ksgen := ⟨rfl, by decide⟩
theorem MatchesOpcodeRow.clrkey : MatchesOpcodeRow.Statement .clrkey := ⟨rfl, by decide⟩
theorem MatchesOpcodeRow.clraddr : MatchesOpcodeRow.Statement .clraddr := ⟨rfl, by decide⟩
theorem MatchesOpcodeRow.srst : MatchesOpcodeRow.Statement .srst := ⟨rfl, by decide⟩
theorem MatchesOpcodeRow.illegal (c : Word) : MatchesOpcodeRow.Statement (.illegal c) :=
  ⟨rfl, by simp [opcodeRow]⟩

end Sys2Proof.Laws
end

