-- ==== Sys2Proof/Tests/Slice0.lean ====
section
/-! SUPPORT. Tests of single operations and single steps, with the results of spec/95_test_vectors.md or of the rule named,
and for every statement with hypotheses a state that meets them. -/

namespace Sys2Proof.Tests

open Sys2Proof.Machine

/-! ## Well-formedness: the one check refuses each legal word as illegal -/

/-- Rules R126, R271: none of the seven words of R125 is an illegal word. -/
theorem test_wellFormed_refuses_legal_words :
    [(Instr.illegal 0x00000000#32).wellFormed, (Instr.illegal 0x00000001#32).wellFormed,
    (Instr.illegal 0x00000002#32).wellFormed, (Instr.illegal 0x00000003#32).wellFormed,
    (Instr.illegal 0x00000004#32).wellFormed, (Instr.illegal 0x00000005#32).wellFormed,
    (Instr.illegal 0x0000000F#32).wellFormed] = List.replicate 7 false := by decide
/-- Rule R126: the words about the legal ones, and one with `RSV` set. -/
theorem test_wellFormed_takes_illegal_words :
    [(Instr.illegal 0x00000006#32).wellFormed, (Instr.illegal 0x0000000E#32).wellFormed,
    (Instr.illegal 0x00000010#32).wellFormed,
    (Instr.illegal 0x00000101#32).wellFormed] = List.replicate 4 true := by decide

/-! ## Decoding: a word of every constructor, written from rules R82, R121, R123, R125 -/

/-- The reads of the registers (map of rule R82). -/
theorem test_decode_register_reads :
    [decode (.bus 0x000000000000#48),
     decode (.bus 0x000100000000#48),
     decode (.bus 0x000200000000#48),
     decode (.bus 0x000300000000#48),
     decode (.bus 0x000400000000#48),
     decode (.bus 0x000500000000#48),
     decode (.bus 0x000600000000#48),
     decode (.bus 0x000700000000#48),
     decode (.bus 0x000800000000#48),
     decode (.bus 0x000900000000#48),
     decode (.bus 0x000A00000000#48),
     decode (.bus 0x000B00000000#48),
     decode (.bus 0x000C00000000#48)] =
    [.rdId,
     .rdCmd,
     .rdStatus,
     .rdInten,
     .rdKeyPush,
     .rdKeyCnt,
     .rdAddrPush,
     .rdAddrCnt,
     .rdFcnt,
     .rdDir,
     .rdPlen,
     .rdRlen,
     .rdBufsz] := by decide
/-- The reads of reserved words and windows, each at the last index of its range (map of rule R82). -/
theorem test_decode_range_reads :
    [decode (.bus 0x000D00000000#48),
     decode (.bus 0x000F00000000#48),
     decode (.bus 0x001F00000000#48),
     decode (.bus 0x003F00000000#48),
     decode (.bus 0x007F00000000#48),
     decode (.bus 0x00FF00000000#48),
     decode (.bus 0x01FF00000000#48),
     decode (.bus 0x03FF00000000#48),
     decode (.bus 0x07FF00000000#48),
     decode (.bus 0x0FFF00000000#48),
     decode (.bus 0x1FFF00000000#48),
     decode (.bus 0x3FFF00000000#48),
     decode (.bus 0x5FFF00000000#48),
     decode (.bus 0x7FFF00000000#48)] =
    [.rdRsv000D,
     .rdRsv000E 0x1#1,
     .rdRsv0010 0xF#4,
     .rdRsv0020 0x1F#5,
     .rdRsv0040 0x3F#6,
     .rdRsv0080 0x7F#7,
     .rdRsv0100 0xFF#8,
     .rdRsv0200 0x1FF#9,
     .rdRsv0400 0x3FF#10,
     .rdRsv0800 0x7FF#11,
     .rdRsv1000 0xFFF#12,
     .rdIn 0x1FFF#13,
     .rdOut 0x1FFF#13,
     .rdRsv6000 0x1FFF#13] := by decide
/-- And at the first index of its range. -/
theorem test_decode_range_reads_first :
    [decode (.bus 0x000D00000000#48),
     decode (.bus 0x000E00000000#48),
     decode (.bus 0x001000000000#48),
     decode (.bus 0x002000000000#48),
     decode (.bus 0x004000000000#48),
     decode (.bus 0x008000000000#48),
     decode (.bus 0x010000000000#48),
     decode (.bus 0x020000000000#48),
     decode (.bus 0x040000000000#48),
     decode (.bus 0x080000000000#48),
     decode (.bus 0x100000000000#48),
     decode (.bus 0x200000000000#48),
     decode (.bus 0x400000000000#48),
     decode (.bus 0x600000000000#48)] =
    [.rdRsv000D,
     .rdRsv000E 0#1,
     .rdRsv0010 0#4,
     .rdRsv0020 0#5,
     .rdRsv0040 0#6,
     .rdRsv0080 0#7,
     .rdRsv0100 0#8,
     .rdRsv0200 0#9,
     .rdRsv0400 0#10,
     .rdRsv0800 0#11,
     .rdRsv1000 0#12,
     .rdIn 0#13,
     .rdOut 0#13,
     .rdRsv6000 0#13] := by decide
/-- The writes of the registers. -/
theorem test_decode_register_writes :
    [decode (.bus 0x800012345678#48),
     decode (.bus 0x800112345678#48),
     decode (.bus 0x800212345678#48),
     decode (.bus 0x800312345678#48),
     decode (.bus 0x800412345678#48),
     decode (.bus 0x800512345678#48),
     decode (.bus 0x800612345678#48),
     decode (.bus 0x800712345678#48),
     decode (.bus 0x800812345678#48),
     decode (.bus 0x800912345678#48),
     decode (.bus 0x800A12345678#48),
     decode (.bus 0x800B12345678#48),
     decode (.bus 0x800C12345678#48)] =
    [.wrId 0x12345678#32,
     .wrCmd 0x12345678#32,
     .wrStatus 0x12345678#32,
     .wrInten 0x12345678#32,
     .wrKeyPush 0x12345678#32,
     .wrKeyCnt 0x12345678#32,
     .wrAddrPush 0x12345678#32,
     .wrAddrCnt 0x12345678#32,
     .wrFcnt 0x12345678#32,
     .wrDir 0x12345678#32,
     .wrPlen 0x12345678#32,
     .wrRlen 0x12345678#32,
     .wrBufsz 0x12345678#32] := by decide
/-- The writes of reserved words and windows, each at the last index of its range. -/
theorem test_decode_range_writes :
    [decode (.bus 0x800D89ABCDEF#48),
     decode (.bus 0x800F89ABCDEF#48),
     decode (.bus 0x801F89ABCDEF#48),
     decode (.bus 0x803F89ABCDEF#48),
     decode (.bus 0x807F89ABCDEF#48),
     decode (.bus 0x80FF89ABCDEF#48),
     decode (.bus 0x81FF89ABCDEF#48),
     decode (.bus 0x83FF89ABCDEF#48),
     decode (.bus 0x87FF89ABCDEF#48),
     decode (.bus 0x8FFF89ABCDEF#48),
     decode (.bus 0x9FFF89ABCDEF#48),
     decode (.bus 0xBFFF89ABCDEF#48),
     decode (.bus 0xDFFF89ABCDEF#48),
     decode (.bus 0xFFFF89ABCDEF#48)] =
    [.wrRsv000D 0x89ABCDEF#32,
     .wrRsv000E 0x1#1 0x89ABCDEF#32,
     .wrRsv0010 0xF#4 0x89ABCDEF#32,
     .wrRsv0020 0x1F#5 0x89ABCDEF#32,
     .wrRsv0040 0x3F#6 0x89ABCDEF#32,
     .wrRsv0080 0x7F#7 0x89ABCDEF#32,
     .wrRsv0100 0xFF#8 0x89ABCDEF#32,
     .wrRsv0200 0x1FF#9 0x89ABCDEF#32,
     .wrRsv0400 0x3FF#10 0x89ABCDEF#32,
     .wrRsv0800 0x7FF#11 0x89ABCDEF#32,
     .wrRsv1000 0xFFF#12 0x89ABCDEF#32,
     .wrIn 0x1FFF#13 0x89ABCDEF#32,
     .wrOut 0x1FFF#13 0x89ABCDEF#32,
     .wrRsv6000 0x1FFF#13 0x89ABCDEF#32] := by decide
/-- The command words of rule R125, and illegal ones (rule R126, vector V34). -/
theorem test_decode_commands :
    [decode (.cmd 0x00000000#32),
     decode (.cmd 0x00000001#32),
     decode (.cmd 0x00000002#32),
     decode (.cmd 0x00000003#32),
     decode (.cmd 0x00000004#32),
     decode (.cmd 0x00000005#32),
     decode (.cmd 0x0000000F#32),
     decode (.cmd 0x00000006#32),
     decode (.cmd 0x00000101#32),
     decode (.cmd 0xFFFFFFFF#32)] =
    [.nop,
     .crypt,
     .ecb,
     .ksgen,
     .clrkey,
     .clraddr,
     .srst,
     .illegal 0x00000006#32,
     .illegal 0x00000101#32,
     .illegal 0xFFFFFFFF#32] := by decide
/-- Rule R122: a read is decoded by `we` and `widx` alone, whatever its `wdata`. -/
theorem test_decode_ignores_read_data :
    decode (.bus 0x0002FFFFFFFF#48) = .rdStatus := by decide
/-- Rules R120, R121, R127: the words of V50 in the table's numbering; no shorter, longer or wider number is a word. -/
theorem test_decodeTableWord :
    [decodeTableWord 48 0x800100000001, decodeTableWord 48 0x203F00000000, decodeTableWord 32 0x0000000F,
    decodeTableWord 64 0, decodeTableWord 32 0x100000000, decodeTableWord 48 0x1000000000000, decodeTableWord 8 1,
    decodeTableWord 0 0, decodeTableWord 40 0x8001000000, decodeTableWord 49 0] =
    [some (.wrCmd 0x00000001#32), some (.rdIn 0x3F#13), some .srst] ++ List.replicate 7 none := by decide
/-- Rule R121, vector V50. -/
theorem test_encode_examples :
    [encode (.wrStatus 0x00000006#32), encode (.wrAddrPush 0x00000033#32), encode (.wrDir 0x00000001#32),
    encode (.rdIn 0x3F#13), encode (.rdOut 3#13), encode (.rdRsv6000 0x1FFF#13)] =
    [.bus 0x800200000006#48, .bus 0x800600000033#48, .bus 0x800900000001#48, .bus 0x203F00000000#48,
    .bus 0x400300000000#48, .bus 0x7FFF00000000#48] := by decide

/-! ## The cipher (vectors V20 to V26) -/

/-- The key of V21, V22, V24. -/
def keyB : Block := #v[0x2b#8, 0x7e#8, 0x15#8, 0x16#8, 0x28#8, 0xae#8, 0xd2#8, 0xa6#8, 0xab#8, 0xf7#8, 0x15#8,
    0x88#8, 0x09#8, 0xcf#8, 0x4f#8, 0x3c#8]
/-- The key and block of V20. -/
def keyC : Block := #v[0x00#8, 0x01#8, 0x02#8, 0x03#8, 0x04#8, 0x05#8, 0x06#8, 0x07#8, 0x08#8, 0x09#8, 0x0a#8,
    0x0b#8, 0x0c#8, 0x0d#8, 0x0e#8, 0x0f#8]
def blockC : Block := #v[0x00#8, 0x11#8, 0x22#8, 0x33#8, 0x44#8, 0x55#8, 0x66#8, 0x77#8, 0x88#8, 0x99#8, 0xaa#8,
    0xbb#8, 0xcc#8, 0xdd#8, 0xee#8, 0xff#8]
/-- The common operands of 95_test_vectors.md. -/
def keyA : Block := #v[0x00#8, 0x11#8, 0x22#8, 0x33#8, 0x44#8, 0x55#8, 0x66#8, 0x77#8, 0x88#8, 0x99#8, 0xaa#8,
    0xbb#8, 0xcc#8, 0xdd#8, 0xee#8, 0xff#8]
def addrA : Vector Byte 4 := #v[0x00#8, 0x11#8, 0x22#8, 0x33#8]

/-- V25: `xtime`. -/
theorem test_xtime :
    [xtime 0x57#8, xtime 0xAE#8, xtime 0x80#8] = [0xAE#8, 0x47#8, 0x1B#8] := by decide
/-- V25: field multiplication and inversion. -/
theorem test_field :
    [gfMul 0x57#8 0x83#8, gfMul 0x57#8 0x13#8, gfInv 0x53#8, gfInv 0x00#8] = [0xC1#8, 0xFE#8, 0xCA#8,
    0x00#8] := by decide +kernel
/-- V25: the S-box, table and rule. -/
theorem test_sbox :
    [sbox 0x00#8, sbox 0x01#8, sbox 0x53#8, sbox 0xFF#8, affine (gfInv 0x53#8)] = [0x63#8, 0x7C#8, 0xED#8,
    0x16#8, 0xED#8] := by decide +kernel
/-- V25: `MixColumns` of one column. -/
theorem test_mixColumn :
    mixColumn ⟨0xdb#8, 0x13#8, 0x53#8, 0x45#8⟩ = ⟨0x8e#8, 0x4d#8, 0xa1#8, 0xbc#8⟩ := by decide +kernel
/-- V24: words `w[4..7]` and `w[10]`, `w[43]` of the key expansion. -/
theorem test_keyExpansion :
    roundKey keyB 1 = ⟨⟨0xa0#8, 0xfa#8, 0xfe#8, 0x17#8⟩, ⟨0x88#8, 0x54#8, 0x2c#8, 0xb1#8⟩, ⟨0x23#8, 0xa3#8,
    0x39#8, 0x39#8⟩, ⟨0x2a#8, 0x6c#8, 0x76#8, 0x05#8⟩⟩ ∧
    (roundKey keyB 2).c2 = ⟨0x59#8, 0x35#8, 0x80#8, 0x7a#8⟩ ∧ (roundKey keyB 10).c3 = ⟨0xb6#8, 0x63#8, 0x0c#8,
    0xa6#8⟩ := by decide +kernel
/-- V26: the state at the start of round 2, and round 1's `SubBytes` and `ShiftRows`. -/
theorem test_round_trace :
    storeBlock (aesRounds keyC blockC 1) = #v[0x89#8, 0xd8#8, 0x10#8, 0xe8#8, 0x85#8, 0x5a#8, 0xce#8, 0x68#8,
    0x2d#8, 0x18#8, 0x43#8, 0xd8#8, 0xcb#8, 0x12#8, 0x8f#8, 0xe4#8] ∧
    storeBlock (subBytes (aesRounds keyC blockC 0)) = #v[0x63#8, 0xca#8, 0xb7#8, 0x04#8, 0x09#8, 0x53#8, 0xd0#8,
    0x51#8, 0xcd#8, 0x60#8, 0xe0#8, 0xe7#8, 0xba#8, 0x70#8, 0xe1#8, 0x8c#8] ∧
    storeBlock (shiftRows (subBytes (aesRounds keyC blockC 0))) = #v[0x63#8, 0x53#8, 0xe0#8, 0x8c#8, 0x09#8,
    0x60#8, 0xe1#8, 0x04#8, 0xcd#8, 0x70#8, 0xb7#8, 0x51#8, 0xba#8, 0xca#8, 0xd0#8, 0xe7#8] := by decide +kernel
/-- V20, FIPS-197 Appendix C.1. -/
theorem test_aes_V20 :
    aes128Enc keyC blockC = #v[0x69#8, 0xc4#8, 0xe0#8, 0xd8#8, 0x6a#8, 0x7b#8, 0x04#8, 0x30#8, 0xd8#8, 0xcd#8,
    0xb7#8, 0x80#8, 0x70#8, 0xb4#8, 0xc5#8, 0x5a#8] := by decide +kernel
/-- V21, FIPS-197 Appendix B. -/
theorem test_aes_V21 :
    aes128Enc keyB #v[0x32#8, 0x43#8, 0xf6#8, 0xa8#8, 0x88#8, 0x5a#8, 0x30#8, 0x8d#8, 0x31#8, 0x31#8, 0x98#8,
    0xa2#8, 0xe0#8, 0x37#8, 0x07#8, 0x34#8] = #v[0x39#8, 0x25#8, 0x84#8, 0x1d#8, 0x02#8, 0xdc#8, 0x09#8, 0xfb#8,
    0xdc#8, 0x11#8, 0x85#8, 0x97#8, 0x19#8, 0x6a#8, 0x0b#8, 0x32#8] := by decide +kernel
/-- V22, SP 800-38A F.1.1. -/
theorem test_aes_V22 :
    aes128Enc keyB #v[0x6b#8, 0xc1#8, 0xbe#8, 0xe2#8, 0x2e#8, 0x40#8, 0x9f#8, 0x96#8, 0xe9#8, 0x3d#8, 0x7e#8,
    0x11#8, 0x73#8, 0x93#8, 0x17#8, 0x2a#8] = #v[0x3a#8, 0xd7#8, 0x7b#8, 0xb4#8, 0x0d#8, 0x7a#8, 0x36#8, 0x60#8,
    0xa8#8, 0x9e#8, 0xca#8, 0xf3#8, 0x24#8, 0x66#8, 0xef#8, 0x97#8] := by decide +kernel

/-! ## Keying blocks and keystream (vectors V12 to V18) -/

/-- V18: `A_1`, `A_256` and `A_257`. -/
theorem test_keyingBlock_V18 :
    keyingBlock addrA 1#32 0#1 1 = #v[0x01#8, 0x00#8, 0x00#8, 0x00#8, 0x00#8, 0x00#8, 0x33#8, 0x22#8, 0x11#8,
    0x00#8, 0x01#8, 0x00#8, 0x00#8, 0x00#8, 0x00#8, 0x01#8] ∧
    keyingBlock addrA 1#32 0#1 256 = #v[0x01#8, 0x00#8, 0x00#8, 0x00#8, 0x00#8, 0x00#8, 0x33#8, 0x22#8, 0x11#8,
    0x00#8, 0x01#8, 0x00#8, 0x00#8, 0x00#8, 0x00#8, 0x00#8] ∧
    keyingBlock addrA 1#32 0#1 257 = keyingBlock addrA 1#32 0#1 1 := by decide
/-- V12, V15, V16: direction, counter order, address order. -/
theorem test_keyingBlock_orders :
    keyingBlock addrA 1#32 1#1 1 = #v[0x01#8, 0x00#8, 0x00#8, 0x00#8, 0x00#8, 0x01#8, 0x33#8, 0x22#8, 0x11#8,
    0x00#8, 0x01#8, 0x00#8, 0x00#8, 0x00#8, 0x00#8, 0x01#8] ∧
    keyingBlock addrA 0x01020304#32 0#1 1 = #v[0x01#8, 0x00#8, 0x00#8, 0x00#8, 0x00#8, 0x00#8, 0x33#8, 0x22#8,
    0x11#8, 0x00#8, 0x04#8, 0x03#8, 0x02#8, 0x01#8, 0x00#8, 0x01#8] ∧
    keyingBlock #v[0x01#8, 0x02#8, 0x03#8, 0x04#8] 1#32 0#1 1 = #v[0x01#8, 0x00#8, 0x00#8, 0x00#8, 0x00#8,
    0x00#8, 0x04#8, 0x03#8, 0x02#8, 0x01#8, 0x01#8, 0x00#8, 0x00#8, 0x00#8, 0x00#8, 0x01#8] := by decide

/-- The common operands loaded, idle: `FCNT = 1`, `PLEN = 17`, `IN[0..17) = 00 01 … 10`. -/
def loaded : State :=
  { State.reset with arch := { Arch.reset with
      key := keyA, keyCnt := 16, addr := addrA, addrCnt := 4, fcnt := 1#32, plen := 17#16,
      inBuf := (List.range 16).map fun n => (n + 1, BitVec.ofNat 8 (n + 1)) } }

/-- The same with a command in flight. -/
def inFlight (c : LongCmd) : State :=
  { loaded with arch := { loaded.arch with pending := some c, busy := true } }

/-- A failed CRYPT's status, `0x00000026`, with `ACCERR` clear. -/
def failed : State :=
  { loaded with arch := { loaded.arch with done := true, err := true, errcode := .invalidKeyLength } }

/-- A state with an input to come. -/
def withInput (i : Input) (s : State) : State := { s with port := { s.port with inputs := [i] } }

/-- The reset input asserted. -/
def held : State := { State.reset with port := { State.reset.port with rst := true } }

/-- What a test looks at after one step: the last word read, or the architectural state. -/
def wordRead (o : Host.Outcome State Fault Refusal) : Option Word :=
  match o with
  | .next t => t.rdata
  | _ => none

def archAfter (o : Host.Outcome State Fault Refusal) : Option Arch :=
  match o with
  | .next t => some t.arch
  | _ => none

/-- V18: `S_2` of the common operands. -/
theorem test_keystreamBlock_V18 :
    keystreamBlock loaded.arch 2 = #v[0xac#8, 0x10#8, 0x23#8, 0x05#8, 0x0d#8, 0x74#8, 0xc6#8, 0x24#8, 0x41#8,
    0x08#8, 0x2c#8, 0x12#8, 0x56#8, 0xd3#8, 0xf4#8, 0x3e#8] := by decide +kernel
/-- V12: `S_1` downlink. -/
theorem test_keystreamBlock_V12 :
    keystreamBlock { loaded.arch with dir := 1#1 } 1 = #v[0xcd#8, 0x8a#8, 0x43#8, 0x37#8, 0x57#8, 0x79#8,
    0xa0#8, 0xfe#8, 0x91#8, 0x1e#8, 0xde#8, 0xe3#8, 0xf6#8, 0x16#8, 0xe3#8, 0x3b#8] := by decide +kernel
/-- V15, V16: `S_1` with the counter and the address whose byte orders matter. -/
theorem test_keystreamBlock_V15_V16 :
    keystreamBlock { loaded.arch with fcnt := 0x01020304#32 } 1 = #v[0x88#8, 0x7c#8, 0xaf#8, 0x60#8, 0x54#8,
    0x48#8, 0xbd#8, 0x49#8, 0xb8#8, 0x5c#8, 0x9c#8, 0x8e#8, 0x44#8, 0x29#8, 0x54#8, 0xbd#8] ∧
    keystreamBlock { loaded.arch with addr := #v[0x01#8, 0x02#8, 0x03#8, 0x04#8] } 1 = #v[0x9a#8, 0x4a#8,
    0xb9#8, 0x15#8, 0xc4#8, 0xe5#8, 0xb5#8, 0xd3#8, 0xbe#8, 0xfd#8, 0x28#8, 0xa5#8, 0x9f#8, 0x32#8, 0x4d#8,
    0xa2#8] := by decide +kernel
/-- V17: block 257 repeats block 1 and block 256 does not (`BUF_BYTES = 4112`). -/
theorem test_keystream_wrap_V17 :
    keystreamBlock loaded.arch 257 = #v[0xd2#8, 0x22#8, 0xbd#8, 0x76#8, 0x8c#8, 0x4c#8, 0xe9#8, 0x38#8, 0xb8#8,
    0xba#8, 0x2f#8, 0xe6#8, 0x1c#8, 0x46#8, 0x09#8, 0x83#8] ∧ keystreamBlock loaded.arch 256 = #v[0x64#8,
    0x9a#8, 0x90#8, 0xf2#8, 0x81#8, 0xfa#8, 0x2a#8, 0x37#8, 0xcf#8, 0x1e#8, 0x22#8, 0xfe#8, 0x4c#8, 0xc7#8,
    0x11#8, 0xb3#8] ∧
    (⟨256⟩ : Config).bufBytes = 4112 := by decide +kernel

/-! ## Completion (vectors V5, V11, V20, V46) -/

/-- V5: CRYPT of 17 bytes, a full block and one byte. -/
theorem test_complete_crypt_V5 :
    (engineTurn (inFlight .crypt)).arch.outBuf.readBytes 0 18 =
    [0xd2#8, 0x23#8, 0xbf#8, 0x75#8, 0x88#8, 0x49#8, 0xef#8, 0x3f#8, 0xb0#8, 0xb3#8, 0x25#8, 0xed#8, 0x10#8,
    0x4b#8, 0x07#8, 0x8c#8, 0xbc#8, 0x00#8] ∧
    statusWord (engineTurn (inFlight .crypt)).arch = 0x00000002#32 ∧
    (engineTurn (inFlight .crypt)).arch.rlen = 17#16 := by decide +kernel
/-- V11: KSGEN of 17 bytes. -/
theorem test_complete_ksgen_V11 :
    (engineTurn (inFlight .ksgen)).arch.outBuf.readBytes 0 18 =
    [0xd2#8, 0x22#8, 0xbd#8, 0x76#8, 0x8c#8, 0x4c#8, 0xe9#8, 0x38#8, 0xb8#8, 0xba#8, 0x2f#8, 0xe6#8, 0x1c#8,
    0x46#8, 0x09#8, 0x83#8, 0xac#8, 0x00#8] := by decide +kernel
/-- V19: ECB on `A_1` gives `S_1`, and reports 16 bytes whatever `PLEN` is. -/
theorem test_complete_ecb_V19 :
    (engineTurn { inFlight .ecb with arch := { (inFlight .ecb).arch with plen := 0xFFFF#16, inBuf := (Memory.writeBytes [] 0 (keyingBlock addrA 1#32 0#1 1).toList) } }).arch.outBuf.readBytes 0 17 =
    [0xd2#8, 0x22#8, 0xbd#8, 0x76#8, 0x8c#8, 0x4c#8, 0xe9#8, 0x38#8, 0xb8#8, 0xba#8, 0x2f#8, 0xe6#8, 0x1c#8,
    0x46#8, 0x09#8, 0x83#8, 0x00#8] ∧
    (engineTurn (inFlight .ecb)).arch.rlen = 16#16 := by decide +kernel
/-- V46: a result of one byte leaves the bytes beyond it (rule R263). -/
theorem test_complete_keeps_stale_bytes :
    (engineTurn { inFlight .crypt with arch := { (inFlight .crypt).arch with plen := 1#16, inBuf := [(0, 0xff#8)], outBuf := [(0, 0xd2#8), (1, 0x23#8)] } }).arch.outBuf.readBytes 0 3 = [0x2d#8,
    0x23#8, 0x00#8] := by decide +kernel

/-! ## Transactions (vectors V30 to V45) -/

/-- V30, V41: the constants, busy or not. -/
theorem test_read_constants :
    wordRead (exec .rdId (inFlight .ecb)) = some 0x41455331#32 ∧ wordRead (exec .rdBufsz loaded) = some 0x00000100#32 ∧
    wordRead (exec .rdBufsz { loaded with cfg := ⟨256⟩ }) = some 0x00001010#32 := by decide
/-- V43: write-only words read 0. -/
theorem test_read_write_only :
    [wordRead (exec .rdCmd loaded), wordRead (exec .rdKeyPush loaded),
    wordRead (exec .rdAddrPush loaded)] = List.replicate 3 (some 0x00000000#32) := by decide
/-- V31, V35, rule R153: `STATUS` after a failed command, while busy, and while busy after a discarded write. -/
theorem test_read_status :
    [wordRead (exec .rdStatus failed), wordRead (exec .rdStatus (inFlight .crypt)),
    wordRead (exec .rdStatus { inFlight .crypt with arch := setAccessError (inFlight .crypt).arch })] =
    [some 0x00000026#32, some 0x00000001#32, some 0x00000009#32] := by decide
/-- Rules R155, R160, R161, R164, R166, R168. -/
theorem test_read_operands :
    [wordRead (exec .rdKeyCnt loaded), wordRead (exec .rdAddrCnt loaded), wordRead (exec .rdFcnt loaded),
    wordRead (exec .rdDir { loaded with arch := { loaded.arch with dir := 1#1 } }),
    wordRead (exec .rdPlen { loaded with arch := { loaded.arch with plen := 0xFFFF#16 } }),
    wordRead (exec .rdRlen loaded), wordRead (exec .rdInten loaded)] =
    [some 0x00000010#32, some 0x00000004#32, some 0x00000001#32, some 0x00000001#32, some 0x0000FFFF#32,
    some 0x00000000#32, some 0x00000000#32] := by decide
/-- Rules R87, R170: lanes of an IN word, busy or not, and the reserved words from `BUF_BYTES` on (V41). -/
theorem test_read_in :
    [wordRead (exec (.rdIn 0#13) loaded), wordRead (exec (.rdIn 1#13) (inFlight .crypt)),
    wordRead (exec (.rdIn 0x40#13) loaded)] =
    [some 0x03020100#32, some 0x07060504#32, some 0x00000000#32] := by decide
/-- Rule R163: an OUT word while idle, while busy, and from `BUF_BYTES` on. -/
theorem test_read_out :
    [wordRead (exec (.rdOut 0#13) { loaded with arch := { loaded.arch with outBuf := [(0, 0xd2#8), (3, 0x76#8)] } }),
    wordRead (exec (.rdOut 0#13) { inFlight .crypt with arch := { (inFlight .crypt).arch with outBuf := [(0, 0xd2#8)] } }),
    wordRead (exec (.rdOut 0x40#13) { loaded with arch := { loaded.arch with outBuf := [(256, 0xd2#8)] } })] =
    [some 0x760000D2#32, some 0x00000000#32, some 0x00000000#32] := by decide
/-- V41: reserved words read 0. -/
theorem test_read_reserved :
    [wordRead (step (State.withFetchWord loaded 48 0x000D00000000)),
    wordRead (step (State.withFetchWord loaded 48 0x1FFF00000000)),
    wordRead (step (State.withFetchWord loaded 48 0x7FFF00000000))] = List.replicate 3 (some 0x00000000#32) := by decide
/-- V35: write 1 to clear. -/
theorem test_write_status :
    [(archAfter (exec (.wrStatus 0x2#32) failed)).map statusWord,
    (archAfter (exec (.wrStatus 0x4#32) failed)).map statusWord,
    (archAfter (exec (.wrStatus 0x6#32) failed)).map statusWord,
    (archAfter (exec (.wrStatus 0xFFFFFFF1#32) failed)).map statusWord] =
    [some 0x00000024#32, some 0x00000002#32, some 0x00000000#32, some 0x00000026#32] := by decide
/-- V42: the enable takes bit 0 alone and raises `irq` at once. -/
theorem test_write_inten :
    (archAfter (exec (.wrInten 0xFFFFFFFF#32) failed)).map (fun a => State.irq { failed with arch := a }) = some true ∧
    (archAfter (exec (.wrInten 0xFFFFFFFE#32) failed)).map Arch.ie = some false := by decide
/-- V44: the field a write takes. -/
theorem test_write_fields :
    (archAfter (exec (.wrPlen 0x00010011#32) loaded)).map Arch.plen = some 0x0011#16 ∧
    (archAfter (exec (.wrDir 3#32) loaded)).map Arch.dir = some 1#1 ∧ (archAfter (exec (.wrDir 2#32) loaded)).map Arch.dir = some 0#1 ∧
    (archAfter (exec (.wrFcnt 0xFFFFFFFF#32) loaded)).map Arch.fcnt = some 0xFFFFFFFF#32 := by decide
/-- V44: the first key byte. -/
theorem test_write_key_push :
    (archAfter (exec (.wrKeyPush 0x1FF#32) State.reset)).map (fun a => (a.key[0], a.key[1],
    a.keyCnt)) = some (0xff#8, 0x00#8, 1) := by decide
/-- V31: the 17th key byte is discarded and the count stays 17. -/
theorem test_write_key_push_over :
    (archAfter (exec (.wrKeyPush 0x99#32) loaded)).map (fun a => (a.key, a.keyCnt)) = some (keyA, 17) ∧
    (archAfter (exec (.wrKeyPush 0x99#32) { loaded with arch := { loaded.arch with keyCnt := 17 } })).map Arch.keyCnt = some 17 := by decide
/-- V32: the 5th address byte is discarded; the 4th completes the address. -/
theorem test_write_addr_push :
    (archAfter (exec (.wrAddrPush 0x99#32) loaded)).map (fun a => (a.addr, a.addrCnt)) = some (addrA, 5) ∧
    (archAfter (exec (.wrAddrPush 0x99#32) { loaded with arch := { loaded.arch with addrCnt := 3 } })).map (fun a => (a.addr[3],
    a.addrCnt)) = some (0x99#8, 4) := by decide
/-- Rule R87: the lanes of an IN write, a zero byte leaving no cell. -/
theorem test_write_in :
    (archAfter (exec (.wrIn 0#13 0x33221100#32) State.reset)).map Arch.inBuf = some [(1, 0x11#8), (2, 0x22#8),
    (3, 0x33#8)] ∧
    (archAfter (exec (.wrIn 0x40#13 1#32) State.reset)).map Arch.inBuf = some [] ∧ (archAfter (exec (.wrIn 0x3F#13 1#32) State.reset)).map Arch.inBuf = some [(252,
    0x01#8)] := by decide
/-- V41: writes that are ignored. -/
theorem test_ignored_writes :
    [archAfter (exec (.wrId 5#32) loaded), archAfter (exec (.wrKeyCnt 16#32) loaded),
    archAfter (exec (.wrAddrCnt 4#32) loaded), archAfter (exec (.wrRlen 9#32) loaded),
    archAfter (exec (.wrBufsz 1#32) loaded), archAfter (exec (.wrOut 0#13 0x55#32) loaded),
    archAfter (exec (.wrRsv000D 1#32) loaded), archAfter (exec (.wrRsv1000 0xFFF#12 1#32) loaded),
    archAfter (exec (.wrRsv6000 0#13 1#32) loaded)] =
    List.replicate 9 (some loaded.arch) := by decide +kernel
/-- V36: a write while busy sets `ACCERR` and is otherwise discarded, also of a reserved word and of `STATUS`. -/
theorem test_write_while_busy :
    [archAfter (exec (.wrPlen 5#32) (inFlight .crypt)), archAfter (exec .nop (inFlight .crypt)),
    archAfter (exec (.wrStatus 8#32) (inFlight .crypt)),
    archAfter (exec (.wrRsv6000 0#13 0#32) (inFlight .crypt))] =
    List.replicate 4 (some (setAccessError (inFlight .crypt).arch)) := by decide +kernel

/-! ## Commands (vectors V31 to V40, V45) -/

/-- V33: a checked command sets `BUSY` alone, from either form of the write. -/
theorem test_issue_crypt :
    (archAfter (step (failed.withFetchWord 48 0x800100000001))).map (fun a => (statusWord a,
    a.pending)) = some (0x00000001#32, some .crypt) ∧
    (archAfter (step (failed.withFetchWord 32 0x00000001))).map (fun a => (statusWord a,
    a.pending)) = some (0x00000001#32, some .crypt) := by decide
/-- V31 to V33: the three checks of CRYPT, the key first. -/
theorem test_issue_crypt_fails :
    [(archAfter (exec .crypt State.reset)).map statusWord,
    (archAfter (exec .crypt { loaded with arch := { loaded.arch with addrCnt := 3 } })).map statusWord,
    (archAfter (exec .crypt { loaded with arch := { loaded.arch with plen := 257#16 } })).map statusWord,
    (archAfter (exec .crypt { loaded with arch := { loaded.arch with plen := 256#16 } })).map statusWord] =
    [some 0x00000026#32, some 0x00000036#32, some 0x00000046#32, some 0x00000001#32] := by decide
/-- V32, V33: KSGEN checks the same, in the same order. -/
theorem test_issue_ksgen :
    [(archAfter (exec .ksgen { State.reset with arch := { Arch.reset with plen := 300#16 } })).map statusWord,
    (archAfter (exec .ksgen { loaded with arch := { loaded.arch with addrCnt := 5 } })).map statusWord,
    (archAfter (exec .ksgen loaded)).map statusWord] =
    [some 0x00000026#32, some 0x00000036#32, some 0x00000001#32] := by decide
/-- V45: ECB needs neither address nor length. -/
theorem test_issue_ecb :
    (archAfter (exec .ecb { loaded with arch := { loaded.arch with addrCnt := 0, plen := 0xFFFF#16 } })).map (fun a => (statusWord a,
    a.pending)) = some (0x00000001#32, some .ecb) ∧
    (archAfter (exec .ecb State.reset)).map statusWord = some 0x00000026#32 := by decide
/-- V34: illegal words, `OP` legal or not. -/
theorem test_issue_illegal :
    [(archAfter (exec (.wrCmd 0x6#32) loaded)).map statusWord,
    (archAfter (exec (.wrCmd 0x101#32) loaded)).map statusWord,
    (archAfter (exec (.illegal 0xFFFFFFFF#32) loaded)).map statusWord] = List.replicate 3 (some 0x00000016#32) := by decide
/-- V31, V40: CLRKEY leaves `STATUS = 2`, no key, the address and OUT. -/
theorem test_clrkey :
    (archAfter (exec .clrkey { failed with arch := { failed.arch with keyCnt := 17, rlen := 16#16, outBuf := [(0, 0xd2#8)] } })).map (fun a => (statusWord a,
    a.keyCnt, a.key, a.rlen, a.addr)) = some (0x00000002#32, 0, Vector.replicate 16 0x00#8, 0#16, addrA) ∧
    (archAfter (exec .clrkey { failed with arch := { failed.arch with outBuf := [(0, 0xd2#8)] } })).map Arch.outBuf = some [(0,
    0xd2#8)] := by decide
/-- Rule R268: CLRADDR leaves the key. -/
theorem test_clraddr :
    (archAfter (exec .clraddr failed)).map (fun a => (statusWord a, a.addrCnt, a.addr, a.keyCnt,
    a.key)) = some (0x00000002#32, 0, Vector.replicate 4 0x00#8, 16, keyA) := by decide
/-- V39: NOP clears nothing. -/
theorem test_nop :
    archAfter (exec .nop failed) = some failed.arch := by decide +kernel
/-- V38: SRST while busy, without `ACCERR`. -/
theorem test_srst :
    archAfter (exec .srst (inFlight .crypt)) = some Arch.reset ∧ archAfter (exec (.wrCmd 0xF#32) (inFlight .ecb)) = some Arch.reset := by decide +kernel
/-- Rule R332: the reset input asserted while busy, and reads and writes while it is held. -/
theorem test_reset_input :
    archAfter (step (withInput (.rst true) (inFlight .crypt))) = some Arch.reset ∧
    wordRead (exec .rdId held) = some 0x00000000#32 ∧ archAfter (exec (.wrFcnt 5#32) held) = some Arch.reset := by decide +kernel
/-- Rules R6, R261, R348: the engine's turn ends a command; without one in flight it does nothing; with no input left it comes. -/
theorem test_engine_turn :
    (archAfter (step (withInput .engine (inFlight .ecb)))).map statusWord = some 0x00000002#32 ∧
    archAfter (step (withInput .engine loaded)) = some loaded.arch ∧
    (archAfter (step (inFlight .ecb))).map statusWord = some 0x00000002#32 := by decide +kernel
/-- Rule R129, program P1 rows 1, 2, 18, 19, 26, 33: the expansions of the pseudo-instructions. -/
theorem test_pseudo_expansions :
    (ldkeyExpansion keyA).take 3 = [.wrCmd 4#32, .wrKeyPush 0x00#32,
    .wrKeyPush 0x11#32] ∧ (ldkeyExpansion keyA).length = 17 ∧
    ldaddrExpansion addrA = [.wrCmd 5#32, .wrAddrPush 0x00#32, .wrAddrPush 0x11#32, .wrAddrPush 0x22#32,
    .wrAddrPush 0x33#32] ∧
    ldinExpansion [0x41#8, 0x21#8, 0x02#8, 0x03#8, 0x04#8] = [.wrIn 0#13 0x03022141#32,
    .wrIn 1#13 0x00000004#32] ∧
    rdoutExpansion 5 = [.rdOut 0#13, .rdOut 1#13] ∧ runExpansion 1#32 1 = [.wrCmd 1#32, .rdStatus] := by decide

/-! ## Witnesses: states and operands that meet every statement's hypotheses, at the edges of their ranges -/

/-- The machine with its architectural state changed. -/
def adjust (s : State) (f : Arch → Arch) : State := s.withArch (f s.arch)

/-- A completed ECB, `DONE` set, waiting for a reader. -/
def completed : State := engineTurn (inFlight .ecb)

theorem witness_inv_loaded : loaded.Inv := by constructor <;> decide
theorem witness_inv_inFlight_crypt : (inFlight .crypt).Inv := by constructor <;> decide
theorem witness_inv_inFlight_ecb : (inFlight .ecb).Inv := by constructor <;> decide
theorem witness_inv_failed : failed.Inv := by constructor <;> decide
theorem witness_inv_held : held.Inv := by constructor <;> decide

theorem witness_DecodeInvertsEncode : (Instr.illegal 0x00000006#32).wellFormed = true ∧
    (Instr.illegal 0x00000101#32).wellFormed = true ∧ (Instr.wrRsv6000 0x1FFF#13 0xFFFFFFFF#32).wellFormed = true := by
  decide
theorem witness_OnlySevenWordsAreCommands : (0x00000101#32 : Word).extractLsb' 8 24 ≠ 0#24 ∧
    (0x00000006#32 : Word) ∉ legalCommandWords ∧ (0x0000000E#32 : Word) ∉ legalCommandWords ∧
    (0x00000010#32 : Word) ∉ legalCommandWords ∧ (0x0000000F#32 : Word) ∈ legalCommandWords := by decide
theorem witness_StepRunsTheDecodedTransaction :
    (withInput (.host (.bus 0x800100000001#48)) loaded).port.inputs = .host (.bus 0x800100000001#48) :: [] ∧
    decodeTableWord 48 0x800100000001 = some (.wrCmd 0x00000001#32) ∧
    decodeTableWord 32 0x0000000F = some .srst ∧ decodeTableWord 48 0xFFFFFFFFFFFF =
      some (.wrRsv6000 0x1FFF#13 0xFFFFFFFF#32) := by decide
theorem witness_EveryTransactionCompletes : Instr.rdStatus.isRead = true ∧ Instr.srst.isRead = false := by decide
/-- A byte access to the first byte of the range, and an aligned word access to its last word, whatever `BASE` is. -/
theorem witness_OnlyNonWordAccessesStop :
    HostAccess.reachesPort ⟨false, Config.base, 1, 0#32⟩ = true ∧
    HostAccess.isPortWord ⟨false, Config.base, 1, 0#32⟩ = false := by
  simp [HostAccess.reachesPort, HostAccess.isPortWord]
/-- The last byte of the range, a misaligned word of it, an access from address 0 over its first byte, one of no
bytes, and the word just above the range. -/
theorem witness_HostAccessesReachThePortAsWords :
    (∀ a : HostAccess, (withInput (.access a) loaded).port.inputs = .access a :: []) ∧
    (0x7FFF#15 : BitVec 15).toNat = 0x7FFF ∧
    (0 < 1 ∧ Config.base + 0x1FFFF < Config.base + 0x20000 ∧ Config.base < Config.base + 0x1FFFF + 1 ∧ 1 ≠ 4) ∧
    (0 < 4 ∧ Config.base + 1 < Config.base + 0x20000 ∧ Config.base < Config.base + 1 + 4 ∧
      (Config.base + 1 - Config.base) % 4 ≠ 0) ∧
    (0 < Config.base + 5 ∧ 0 < Config.base + 0x20000 ∧ Config.base < 0 + (Config.base + 5) ∧ Config.base + 5 ≠ 4) ∧
    Config.base + 0x20000 ≤ Config.base + 0x20000 := by
  refine ⟨fun _ => rfl, by decide, ?_, ?_, ?_, ?_⟩ <;> omega
theorem witness_ParameterNeverChanges : ∃ t, step (withInput .engine loaded) = .next t := ⟨_, rfl⟩
theorem witness_ResetSetsEveryElement :
    (withInput (.rst true) (inFlight .crypt)).port.inputs = .rst true :: [] ∧ (inFlight .crypt).port.rst = false := by
  decide
theorem witness_SoftResetTakesEffectEvenWhileBusy :
    (inFlight .ksgen).port.rst = false ∧ (inFlight .ksgen).arch.busy = true ∧
    (Instr.wrCmd 0x0000000E#32).isRead = false ∧ (Instr.wrCmd 0x0000000E#32).isSoftReset = false := by decide
theorem witness_ResetInputHoldsTheMachine :
    (withInput (.rst true) loaded).port.inputs = .rst true :: [] ∧
    (withInput (.rst false) held).port.inputs = .rst false :: [] ∧ held.port.rst = true := by decide
theorem witness_EveryStepKeepsTheInvariant :
    (inFlight .crypt).Inv ∧ ∃ t, step (inFlight .crypt) = .next t := ⟨witness_inv_inFlight_crypt, _, rfl⟩
/-- The host clears `DONE` alone of a failed command. -/
theorem witness_ErrImpliesDoneUntilDoneIsClearedAlone :
    (withInput (.host (encode (.wrStatus 0x2#32))) failed).Inv ∧
    (∃ t, step (withInput (.host (encode (.wrStatus 0x2#32))) failed) = .next t ∧ t.arch.err = true ∧
      t.arch.done = false) ∧ (failed.arch.err = true → failed.arch.done = true) := by
  refine ⟨?_, ⟨_, rfl, by decide, by decide⟩, by decide⟩
  constructor <;> decide
theorem witness_RegisterReadsReturnTheirValue : loaded.port.rst = false ∧ (inFlight .ecb).port.rst = false := by decide
theorem witness_ReservedWordsReadZero : failed.port.rst = false ∧ (inFlight .ecb).port.rst = false := by decide
/-- The last word inside the buffer and the first beyond it. -/
theorem witness_InWindowReadsItsBytes : loaded.port.rst = false ∧
    4 * (0x3F#13 : BitVec 13).toNat < loaded.cfg.bufBytes ∧ ¬ 4 * (0x40#13 : BitVec 13).toNat < loaded.cfg.bufBytes := by
  decide
theorem witness_OutWindowReadsItsBytesOnlyWhileIdle : completed.port.rst = false ∧ completed.arch.busy = false ∧
    (inFlight .ecb).arch.busy = true ∧ ¬ completed.cfg.bufBytes ≤ 4 * (0x3F#13 : BitVec 13).toNat ∧
    completed.cfg.bufBytes ≤ 4 * (0x40#13 : BitVec 13).toNat := by decide +kernel
theorem witness_ReadsChangeNothingAndRepeat : (Instr.rdOut 0x1FFF#13).isRead = true ∧ Instr.rdRsv000D.isRead = true := by
  decide
theorem witness_IgnoredWritesChangeNothing : loaded.acceptsWrites ∧ (inFlight .crypt).port.rst = false ∧
    (inFlight .crypt).arch.busy = true := by decide
theorem witness_StatusWriteClearsSelectedFlags : failed.acceptsWrites ∧ (inFlight .crypt).port.rst = false ∧
    (inFlight .crypt).arch.busy = true := by decide
theorem witness_OperandWritesStoreTheirField : loaded.acceptsWrites := by decide
theorem witness_WrittenFieldsReadBack : loaded.acceptsWrites ∧ loaded.arch.inBuf.wf = true := by decide
/-- `KEY_CNT` at 15, 16 and 17: the last push that is held and the first two that are not. -/
theorem witness_KeyPushAppendsOneByte :
    (adjust loaded fun a => { a with keyCnt := 15 }).acceptsWrites ∧
    (adjust loaded fun a => { a with keyCnt := 15 }).arch.keyCnt.val < 16 ∧ loaded.acceptsWrites ∧
    16 ≤ loaded.arch.keyCnt.val ∧ (adjust loaded fun a => { a with keyCnt := 17 }).acceptsWrites ∧
    16 ≤ (adjust loaded fun a => { a with keyCnt := 17 }).arch.keyCnt.val := by decide
/-- `ADDR_CNT` at 3, 4 and 5. -/
theorem witness_AddressPushAppendsOneByte :
    (adjust loaded fun a => { a with addrCnt := 3 }).acceptsWrites ∧
    (adjust loaded fun a => { a with addrCnt := 3 }).arch.addrCnt.val < 4 ∧ loaded.acceptsWrites ∧
    4 ≤ loaded.arch.addrCnt.val ∧ (adjust loaded fun a => { a with addrCnt := 5 }).acceptsWrites ∧
    4 ≤ (adjust loaded fun a => { a with addrCnt := 5 }).arch.addrCnt.val := by decide
theorem witness_InWriteStoresFourLanes : loaded.acceptsWrites ∧ loaded.arch.inBuf.wf = true ∧
    4 * (0x3F#13 : BitVec 13).toNat < loaded.cfg.bufBytes ∧ loaded.cfg.bufBytes ≤ 4 * (0x40#13 : BitVec 13).toNat := by
  decide
theorem witness_WritesWhileBusyOnlySetAccerr : (inFlight .crypt).port.rst = false ∧ (inFlight .crypt).arch.busy = true ∧
    (Instr.wrIn 0#13 0#32).isRead = false ∧ (Instr.wrIn 0#13 0#32).isSoftReset = false ∧
    (Instr.wrCmd 0x0000000E#32).isRead = false ∧ (Instr.wrCmd 0x0000000E#32).isSoftReset = false := by decide
theorem witness_NopChangesNothing : failed.acceptsWrites ∧ (inFlight .ecb).port.rst = false ∧
    (inFlight .ecb).arch.busy = true := by decide
theorem witness_ClearCommandsZeroTheirOperand : failed.acceptsWrites := by decide
theorem witness_IllegalWordsFailWithCodeOne : loaded.acceptsWrites ∧ (0x00000006#32 : Word) ∉ legalCommandWords ∧
    (0xFFFFFFFF#32 : Word) ∉ legalCommandWords := by decide
/-- `PLEN` at 0, at `BUF_BYTES` and at 17. -/
theorem witness_CheckedLongCommandsStart : loaded.acceptsWrites ∧ loaded.arch.keyCnt = 16 ∧ loaded.payloadLoaded ∧
    (adjust loaded fun a => { a with plen := 0#16 }).payloadLoaded ∧
    (adjust loaded fun a => { a with plen := 256#16 }).payloadLoaded := by decide
theorem witness_FirstFailedCheckGivesTheCode : State.reset.acceptsWrites ∧ (0x00000007#32 : Word) ∉ legalCommandWords ∧
    State.reset.arch.keyCnt ≠ 16 ∧ (adjust loaded fun a => { a with keyCnt := 15 }).arch.keyCnt ≠ 16 ∧
    (adjust loaded fun a => { a with keyCnt := 17 }).arch.keyCnt ≠ 16 ∧ loaded.acceptsWrites ∧
    (adjust loaded fun a => { a with addrCnt := 3 }).arch.keyCnt = 16 ∧
    (adjust loaded fun a => { a with addrCnt := 3 }).arch.addrCnt ≠ 4 ∧
    (adjust loaded fun a => { a with plen := 257#16 }).arch.addrCnt = 4 ∧
    (adjust loaded fun a => { a with plen := 257#16 }).cfg.bufBytes <
      (adjust loaded fun a => { a with plen := 257#16 }).arch.plen.toNat := by decide
theorem witness_CommandsKeepTheOperands : (∃ t, exec .clrkey loaded = .next t) ∧
    (∃ t, exec (.wrCmd 0x00000005#32) loaded = .next t) ∧ (0x00000005#32 : Word) ≠ 0x0000000F#32 ∧
    (∃ t, exec .srst (inFlight .ecb) = .next t) ∧ (inFlight .ecb).port.rst = false :=
  ⟨⟨_, rfl⟩, ⟨_, rfl⟩, by decide, ⟨_, rfl⟩, rfl⟩
/-- The last block before the wrap beside its repeat, and the first block. -/
theorem witness_KeyingBlocksAreDistinctWithinThePeriod : 1 ≤ 256 ∧ 256 ≤ 256 ∧ 1 ≤ 1 ∧
    keyingBlock addrA 1#32 0#1 256 = keyingBlock addrA 1#32 0#1 256 ∧
    keyingBlock addrA 1#32 0#1 256 ≠ keyingBlock addrA 1#32 0#1 1 := by decide
/-- The last byte of a payload of 17, and the first. -/
theorem witness_KeystreamIsTheBlocksInOrder : 16 < 17 ∧ 0 < 1 := by decide
theorem witness_KeystreamPeriodIs256Blocks : 0 + 4096 < 4097 ∧ 1 ≤ 1 ∧ 1 < 256 ∧ 256 ≤ 256 := by decide
theorem witness_SboxIsAffineOfTheInverse : (0x01#8 : Byte) ≠ 0x00#8 ∧ (0xFF#8 : Byte) ≠ 0x00#8 := by decide
theorem witness_EngineStepsOnlyWhileBusy :
    (withInput .engine loaded).port.inputs = .engine :: [] ∧ (withInput .engine loaded).arch.busy = false ∧
    (withInput .engine (inFlight .ecb)).arch.busy = true := by decide
/-- Payloads of 0, 17 and `BUF_BYTES` bytes. -/
theorem witness_CryptCompletesWithThePayloadXorKeystream : (inFlight .crypt).arch.busy = true ∧
    (inFlight .crypt).arch.pending = some .crypt ∧ (inFlight .crypt).arch.outBuf.wf = true ∧
    16 < (inFlight .crypt).arch.plen.toNat ∧ (inFlight .crypt).arch.plen.toNat ≤ 17 := by decide
theorem witness_KsgenCompletesWithTheKeystream : (inFlight .ksgen).arch.busy = true ∧
    (inFlight .ksgen).arch.pending = some .ksgen ∧ (inFlight .ksgen).arch.outBuf.wf = true ∧
    16 < (inFlight .ksgen).arch.plen.toNat ∧ (inFlight .ksgen).arch.plen.toNat ≤ 17 := by decide
theorem witness_EcbCompletesWithOneBlock : (inFlight .ecb).arch.busy = true ∧
    (inFlight .ecb).arch.pending = some .ecb ∧ (inFlight .ecb).arch.outBuf.wf = true ∧
    ∀ (j : Nat) (h : j < 16), (ecbInput (inFlight .ecb).arch)[j] = (inFlight .ecb).arch.inBuf.read j := by decide
theorem witness_CryptResultDependsOnTheOperandsAtIssue : loaded.acceptsWrites ∧ loaded.payloadLoaded ∧
    loaded.arch.outBuf.wf = true ∧
    (∀ w ∈ [Instr.rdStatus, .wrPlen 5#32, .wrCmd 0#32], w.wellFormed = true ∧ w.isSoftReset = false) ∧
    ({ loaded with port := { loaded.port with inputs := asInputs [.crypt, .rdStatus, .wrPlen 5#32, .wrCmd 0#32]
      ++ [.engine] } } : State).port.inputs =
      asInputs (.crypt :: [.rdStatus, .wrPlen 5#32, .wrCmd 0#32]) ++ .engine :: [] := by decide
/-- The result of a one-byte CRYPT copied to IN by a second state. -/
theorem witness_CryptTwiceRestoresThePayload :
    (adjust (inFlight .crypt) fun a => { a with plen := 1#16, inBuf := [(0, 0xff#8)] }).arch.busy = true ∧
    (adjust (inFlight .crypt) fun a => { a with plen := 1#16, inBuf := [(0, 0xff#8)] }).arch.pending = some .crypt ∧
    (adjust (inFlight .crypt) fun a => { a with plen := 1#16, inBuf := [(0, 0x2d#8)] }).arch.outBuf.wf = true ∧
    ∀ n : Nat, n < 1 →
      (adjust (inFlight .crypt) fun a => { a with plen := 1#16, inBuf := [(0, 0x2d#8)] }).arch.inBuf.read n =
      (engineTurn (adjust (inFlight .crypt) fun a => { a with plen := 1#16, inBuf := [(0, 0xff#8)] })).arch.outBuf.read n := by
  decide +kernel
/-- A command in flight with a payload of one byte; its variant differs in `OUT`, in `ACCERR` and in `IN[m]`. -/
def oneByte (c : LongCmd) : State := adjust (inFlight c) fun a => { a with plen := 1#16 }
def altered (c : LongCmd) (m : Nat) : State :=
  adjust (oneByte c) fun a => { a with accerr := true, outBuf := [(0, 0x01#8)], inBuf := a.inBuf.write m 0x77#8 }

/-- CRYPT with `IN[1]` different, the first byte it does not read; KSGEN with `IN[0]`; ECB with `IN[16]`. -/
theorem witness_EqualOperandsGiveEqualResults :
    ([LongCmd.crypt, .ksgen, .ecb].all fun c => (oneByte c).arch.busy && (oneByte c).arch.outBuf.wf &&
      ((oneByte c).arch.pending == some c)) = true ∧
    ([(LongCmd.crypt, 1), (.ksgen, 0), (.ecb, 16)].all fun p => (altered p.1 p.2).arch.busy &&
      (altered p.1 p.2).arch.outBuf.wf && ((altered p.1 p.2).arch.pending == some p.1) &&
      ((altered p.1 p.2).arch.key == (oneByte p.1).arch.key) && ((altered p.1 p.2).arch.plen == 1#16) &&
      ((altered p.1 p.2).arch.inBuf != (oneByte p.1).arch.inBuf)) = true ∧
    (∀ n : Nat, n < 1 → (altered .crypt 1).arch.inBuf.read n = (oneByte .crypt).arch.inBuf.read n) ∧
    (∀ n : Nat, n < 16 → (altered .ecb 16).arch.inBuf.read n = (oneByte .ecb).arch.inBuf.read n) := by decide
theorem witness_ZeroLengthPayloadYieldsNothing :
    (adjust (inFlight .crypt) fun a => { a with plen := 0#16 }).Inv ∧
    (adjust (inFlight .ksgen) fun a => { a with plen := 0#16 }).Inv ∧
    (adjust (inFlight .crypt) fun a => { a with plen := 0#16 }).arch.pending = some .crypt := by
  refine ⟨?_, ?_, by decide⟩ <;> constructor <;> decide
theorem witness_OperandsStayFixedWhileBusy : (withInput (.host (encode .srst)) (inFlight .crypt)).arch.busy = true ∧
    ∃ t, step (withInput (.host (encode .srst)) (inFlight .crypt)) = .next t := ⟨by decide, _, rfl⟩
theorem witness_BusyRisesAndFallsOnlyAsStated :
    (∃ t, step (withInput (.host (encode .crypt)) loaded) = .next t ∧ t.arch.busy = true) ∧ loaded.arch.busy = false ∧
    (∃ t, step (inFlight .ecb) = .next t ∧ t.arch.busy = false) ∧ (inFlight .ecb).arch.busy = true := by
  refine ⟨⟨_, rfl, by decide⟩, by decide, ⟨_, rfl, by decide⟩, by decide⟩
theorem witness_AccerrIsSticky :
    (withInput (.host (encode (.wrFcnt 5#32))) (inFlight .crypt)).nextInstr = some (.wrFcnt 5#32) ∧
    (∃ t, step (withInput (.host (encode (.wrFcnt 5#32))) (inFlight .crypt)) = .next t ∧ t.arch.accerr = true) ∧
    (∃ t, step (withInput (.host (encode (.wrStatus 8#32))) (adjust loaded setAccessError)) = .next t ∧
      t.arch.accerr = false) := by
  refine ⟨by decide, ⟨_, rfl, by decide⟩, ⟨_, rfl, by decide⟩⟩
theorem witness_KeyAndAddressChangeOnlyAsStated :
    (∃ t, step (withInput (.host (encode (.wrKeyPush 0x55#32))) State.reset) = .next t ∧
      t.arch.key ≠ State.reset.arch.key) ∧
    (∃ t, step (withInput (.host (encode .clraddr)) loaded) = .next t ∧ t.arch.addr ≠ loaded.arch.addr) := by
  refine ⟨⟨_, rfl, by decide⟩, ⟨_, rfl, by decide⟩⟩
theorem witness_BuffersChangeOnlyByTheirOwner :
    (∃ t, step (withInput (.host (encode (.wrIn 0#13 5#32))) loaded) = .next t ∧ t.arch.inBuf ≠ loaded.arch.inBuf) ∧
    (∃ t, step (inFlight .ecb) = .next t ∧ t.arch.outBuf ≠ (inFlight .ecb).arch.outBuf) := by
  refine ⟨⟨_, rfl, by decide⟩, ⟨_, rfl, by decide +kernel⟩⟩
theorem witness_InterruptFollowsEnableAndDone : (inFlight .crypt).arch.busy = true ∧ failed.acceptsWrites ∧
    failed.payloadLoaded := by decide
theorem witness_WaitEndsOnceTheEngineIsScheduled :
    (inFlight .crypt).arch.busy = true ∧ (∀ r ∈ [Instr.rdStatus, .rdStatus], r.isRead = true) ∧
    ({ inFlight .crypt with port := { loaded.port with inputs := asInputs [.rdStatus, .rdStatus] ++ [.engine] } } :
      State).port.inputs = asInputs [.rdStatus, .rdStatus] ++ .engine :: [] ∧
    (inFlight .crypt).port.inputs = [] ∧ (∀ i ∈ [Input.engine, .rst true], i.awaitsPort = false) := by decide
theorem witness_OnlyWordsOfTheTwoLengthsDecode : 0 ≠ 48 ∧ 0 ≠ 32 ∧ 31 ≠ 48 ∧ 33 ≠ 32 ∧ 47 ≠ 48 ∧ 49 ≠ 48 ∧
    2 ^ 32 ≤ 0x100000000 ∧ 2 ^ 48 ≤ 0x1000000000000 := by decide

/-- Rule R349: a level of `rst` and turns of the engine still to come do not keep a run from being over; a transaction
to come or a command in flight does. -/
theorem test_runOver :
    [(withInput (.rst true) loaded).runOver, (withInput .engine loaded).runOver, State.reset.runOver,
    (withInput (.host (encode .rdStatus)) loaded).runOver, (inFlight .crypt).runOver] =
    [true, true, true, false, false] := by decide

end Sys2Proof.Tests
end

section
/-! SUPPORT. The result of a long command: how many bytes it has, that it depends on the command's operands alone, and
what OUT reads as after the engine's step. -/

namespace Sys2Proof.Machine

/-! ## The length of the result -/

/-- The keystream of `len` bytes has `len` bytes: its blocks are enough for them (rule R241). -/
@[simp] theorem keystream_length (a : Arch) (len : Nat) : (keystream a len).length = len := by
  have hblocks : len ≤ 16 * blockCount len := by unfold blockCount; omega
  simp [keystream, hblocks]

/-- A long command writes as many bytes as it reports (rule R261). -/
theorem resultBytes_length (a : Arch) (c : LongCmd) : (resultBytes a c).length = (resultLength a c).toNat := by
  cases c with
  | crypt => simp [resultBytes, resultLength, xorBytes]
  | ksgen => simp [resultBytes, resultLength]
  | ecb => simp [resultBytes, resultLength]

/-! ## What the result depends on -/

/-- `b` holds the operands of `c` that `a` holds: the key for all three commands; for CRYPT and KSGEN the address, the
counter, the direction and the length; for CRYPT its payload; for ECB its one block (rules R264, R265, R266). -/
structure SameOperands (c : LongCmd) (a b : Arch) : Prop where
  key : b.key = a.key
  stream : c ≠ .ecb → b.addr = a.addr ∧ b.fcnt = a.fcnt ∧ b.dir = a.dir ∧ b.plen = a.plen
  payload : c = .crypt → ∀ n : Nat, n < a.plen.toNat → b.inBuf.read n = a.inBuf.read n
  block : c = .ecb → ∀ n : Nat, n < 16 → b.inBuf.read n = a.inBuf.read n

theorem keystreamBlocks_congr {a b : Arch} (h : ∀ i, keystreamBlock b i = keystreamBlock a i) :
    ∀ m i : Nat, keystreamBlocks b i m = keystreamBlocks a i m
  | 0, _ => rfl
  | m + 1, i => by rw [keystreamBlocks, keystreamBlocks, h i, keystreamBlocks_congr h m (i + 1)]

/-- The keystream is a function of the key and the keying block's arguments (rule R240). -/
theorem keystream_congr {a b : Arch} (hkey : b.key = a.key) (haddr : b.addr = a.addr) (hfcnt : b.fcnt = a.fcnt)
    (hdir : b.dir = a.dir) (len : Nat) : keystream b len = keystream a len := by
  have hblock : ∀ i, keystreamBlock b i = keystreamBlock a i := fun i => by
    simp only [keystreamBlock, hkey, haddr, hfcnt, hdir]
  rw [keystream, keystream, keystreamBlocks_congr hblock]

theorem Memory.readBytes_congr {m m' : Memory} : ∀ (k n : Nat), (∀ i, n ≤ i → i < n + k → m'.read i = m.read i) →
    m'.readBytes n k = m.readBytes n k
  | 0, _, _ => rfl
  | k + 1, n, h => by
    rw [Memory.readBytes, Memory.readBytes, h n (Nat.le_refl n) (by omega),
      Memory.readBytes_congr k (n + 1) fun i hlo hhi => h i (by omega) (by omega)]

theorem ecbInput_congr {a b : Arch} (h : ∀ n : Nat, n < 16 → b.inBuf.read n = a.inBuf.read n) :
    ecbInput b = ecbInput a := by
  simp [ecbInput, h]

theorem SameOperands.resultLength_eq {c : LongCmd} {a b : Arch} (h : SameOperands c a b) :
    resultLength b c = resultLength a c := by
  cases c with
  | crypt =>
    obtain ⟨_, _, _, hplen⟩ := h.stream (by decide)
    exact hplen
  | ksgen =>
    obtain ⟨_, _, _, hplen⟩ := h.stream (by decide)
    exact hplen
  | ecb => rfl

/-- Equal operands, equal result bytes: no other element of the state enters the result (rules R7, R273). -/
theorem SameOperands.resultBytes_eq {c : LongCmd} {a b : Arch} (h : SameOperands c a b) :
    resultBytes b c = resultBytes a c := by
  cases c with
  | crypt =>
    obtain ⟨haddr, hfcnt, hdir, hplen⟩ := h.stream (by decide)
    have hpayload : b.inBuf.readBytes 0 a.plen.toNat = a.inBuf.readBytes 0 a.plen.toNat :=
      Memory.readBytes_congr _ 0 fun n _ hn => h.payload rfl n (by omega)
    simp only [resultBytes, hplen, hpayload, keystream_congr h.key haddr hfcnt hdir]
  | ksgen =>
    obtain ⟨haddr, hfcnt, hdir, hplen⟩ := h.stream (by decide)
    simp only [resultBytes, hplen, keystream_congr h.key haddr hfcnt hdir]
  | ecb => simp only [resultBytes, h.key, ecbInput_congr (h.block rfl)]

/-! ## What the engine's step leaves -/

theorem engineTurn_rlen {s : State} {c : LongCmd} (hbusy : s.arch.busy = true) (hc : s.arch.pending = some c) :
    (engineTurn s).arch.rlen = resultLength s.arch c := by
  rw [engineTurn_busy s hbusy, State.withArch_arch, complete_rlen _ c hc]

/-- Every byte of OUT after the engine's step: the result's bytes first, then the old ones (rules R261, R263). -/
theorem engineTurn_outBuf_read {s : State} {c : LongCmd} (hbusy : s.arch.busy = true)
    (hc : s.arch.pending = some c) (hwf : s.arch.outBuf.wf = true) (n : Nat) :
    (engineTurn s).arch.outBuf.read n = (resultBytes s.arch c).getD n (s.arch.outBuf.read n) := by
  rw [engineTurn_busy s hbusy, State.withArch_arch, complete_outBuf _ c hc, Memory.read_writeBytes _ _ 0 n hwf,
    if_pos (Nat.zero_le n), Nat.sub_zero]

end Sys2Proof.Machine
end

section
/-! PROOFS. The statements of the family 00_scope.md. -/

namespace Sys2Proof.Proofs.Scope
open Sys2Proof.Machine

/-- Settles O51: both results are the same bytes, and `OUT[0..RLEN)` holds result bytes only, so the old contents of
OUT, which may differ, do not show. -/
theorem equalOperandsGiveEqualResults : Obligations.EqualOperandsGiveEqualResults := by
  intro s u hs hu hpending hwfs hwfu hsame hkey hstream hpayload hblock
  obtain ⟨c, hsc⟩ := Option.ne_none_iff_exists'.mp hpending
  have huc : u.arch.pending = some c := hsame.trans hsc
  have hops : SameOperands c s.arch u.arch :=
    { key := hkey
      stream := fun h => hstream (by simpa [hsc] using h)
      payload := fun h => hpayload (by rw [hsc, h])
      block := fun h => hblock (by rw [hsc, h]) }
  rw [engineTurn_rlen hu huc, engineTurn_rlen hs hsc]
  refine ⟨hops.resultLength_eq, fun n hn => ?_⟩
  have hlt : n < (resultBytes s.arch c).length := by rwa [resultBytes_length]
  rw [engineTurn_outBuf_read hu huc hwfu, engineTurn_outBuf_read hs hsc hwfs, hops.resultBytes_eq,
    List.getD_eq_getElem _ _ hlt, List.getD_eq_getElem _ _ hlt]

end Sys2Proof.Proofs.Scope
end

section
/-! SUPPORT. What one step does to the architectural state, said once: the effect of a write in the cases that the state
tells apart, and of a step in the five that rules R6, R94, R150 and R332 name. -/

namespace Sys2Proof.Machine

/-! ## Writes -/

/-- The command that issues a long command (rule R125). -/
def LongCmd.instr : LongCmd → Instr
  | .crypt => .crypt
  | .ecb => .ecb
  | .ksgen => .ksgen

/-- The word whose write to `CMD` issues it (rule R125). -/
def LongCmd.word : LongCmd → Word
  | .crypt => 0x00000001#32
  | .ecb => 0x00000002#32
  | .ksgen => 0x00000003#32

/-- `WriteResult cfg a i b`: a write `i` that takes effect leaves `b` of the architectural state `a`. The commands come
in both forms, the command word and the write of it to `CMD`. It bounds what each write can do, which is what the rules
over every step need; the exact effect is `writeEffect`. -/
inductive WriteResult (cfg : Config) (a : Arch) : Instr → Arch → Prop
  | nothing (i : Instr) : WriteResult cfg a i a
  | status (d : Word) : WriteResult cfg a (.wrStatus d) (clearFlags d a)
  | inten (d : Word) : WriteResult cfg a (.wrInten d) { a with ie := ieField d }
  | keyPush (d : Word) : WriteResult cfg a (.wrKeyPush d) (pushKey (pushByte d) a)
  | addrPush (d : Word) : WriteResult cfg a (.wrAddrPush d) (pushAddr (pushByte d) a)
  | fcnt (d : Word) : WriteResult cfg a (.wrFcnt d) { a with fcnt := d }
  | dir (d : Word) : WriteResult cfg a (.wrDir d) { a with dir := dirField d }
  | plen (d : Word) : WriteResult cfg a (.wrPlen d) { a with plen := plenField d }
  | inWord (k : BitVec 13) (d : Word) : WriteResult cfg a (.wrIn k d) (writeInWord cfg k.toNat d a)
  | started (c : LongCmd) {i : Instr} (hform : i = c.instr ∨ i = .wrCmd c.word) (hkey : a.keyCnt = 16)
      (hpayload : c ≠ .ecb → a.addrCnt = 4 ∧ a.plen.toNat ≤ cfg.bufBytes) :
      WriteResult cfg a i (startLong c (beginCommand a))
  | failed (i : Instr) {code : ErrCode} (hcode : code ≠ .none) :
      WriteResult cfg a i (raiseCmdError code (beginCommand a))
  | clearedKey {i : Instr} (hform : i = .clrkey ∨ i = .wrCmd 0x00000004#32) :
      WriteResult cfg a i (clearKey (beginCommand a))
  | clearedAddr {i : Instr} (hform : i = .clraddr ∨ i = .wrCmd 0x00000005#32) :
      WriteResult cfg a i (clearAddr (beginCommand a))

/-- CRYPT and KSGEN start on loaded operands and fail with a code otherwise (rules R264, R266, R301). -/
theorem WriteResult.payloadCommand {cfg : Config} {a : Arch} {c : LongCmd} {i : Instr}
    (hform : i = c.instr ∨ i = .wrCmd c.word) :
    WriteResult cfg a i (startChecked (payloadCheck cfg (beginCommand a)) c (beginCommand a)) := by
  rcases startChecked_cases (payloadCheck cfg (beginCommand a)) c (beginCommand a) with ⟨e, hf, heq⟩ | ⟨hf, heq⟩
  · rw [heq]
    exact .failed i fun h => payloadCheck_ne_none _ _ (h ▸ hf)
  · rw [heq]
    obtain ⟨hkey, hpayload⟩ := (payloadCheck_none _ _).mp hf
    exact .started c hform hkey fun _ => hpayload

/-- ECB starts on a whole key and fails with a code otherwise (rules R265, R301). -/
theorem WriteResult.ecbCommand {cfg : Config} {a : Arch} {i : Instr}
    (hform : i = .ecb ∨ i = .wrCmd 0x00000002#32) : WriteResult cfg a i (issueEcb (beginCommand a)) := by
  rcases startChecked_cases (keyCheck (beginCommand a)) .ecb (beginCommand a) with ⟨e, hf, heq⟩ | ⟨hf, heq⟩
  · rw [issueEcb, heq]
    exact .failed i fun h => keyCheck_ne_none _ (h ▸ hf)
  · rw [issueEcb, heq]
    exact .started .ecb hform ((keyCheck_none _).mp hf) fun h => absurd rfl h

/-- A word written to `CMD` has one of the results of the commands (rule R260). -/
theorem WriteResult.cmdWord (cfg : Config) (a : Arch) (c : Word) :
    WriteResult cfg a (.wrCmd c) (issue cfg c a) := by
  unfold issue
  split_ifs with h0 h1 h2 h3 h4 h5
  · exact .nothing _
  · exact .payloadCommand (c := .crypt) (.inr (by rw [h1]; rfl))
  · exact .ecbCommand (.inr (by rw [h2]))
  · exact .payloadCommand (c := .ksgen) (.inr (by rw [h3]; rfl))
  · exact .clearedKey (.inr (by rw [h4]))
  · exact .clearedAddr (.inr (by rw [h5]))
  · exact .failed _ (by decide)

/-- Every effect of a write is one of these results. -/
theorem writeEffect_result (cfg : Config) (a : Arch) (i : Instr) : WriteResult cfg a i (writeEffect cfg i a) := by
  cases i with
  | wrStatus d => exact .status d
  | wrInten d => exact .inten d
  | wrKeyPush d => exact .keyPush d
  | wrAddrPush d => exact .addrPush d
  | wrFcnt d => exact .fcnt d
  | wrDir d => exact .dir d
  | wrPlen d => exact .plen d
  | wrIn k d => exact .inWord k d
  | wrCmd c => exact .cmdWord cfg a c
  | crypt => exact .payloadCommand (c := .crypt) (.inl rfl)
  | ecb => exact .ecbCommand (.inl rfl)
  | ksgen => exact .payloadCommand (c := .ksgen) (.inl rfl)
  | clrkey => exact .clearedKey (.inl rfl)
  | clraddr => exact .clearedAddr (.inl rfl)
  | illegal c => exact .failed _ (by decide)
  | _ => exact .nothing _

/-! ## What a write can change, element by element -/

section
variable {cfg : Config} {a b : Arch} {i : Instr} (h : WriteResult cfg a i b)
include h

/-- `KEY` and `KEY_CNT` change by their push and CLRKEY alone (rules R43, R44). -/
theorem WriteResult.key_eq_or : (b.key = a.key ∧ b.keyCnt = a.keyCnt) ∨
    i = .clrkey ∨ i = .wrCmd 0x00000004#32 ∨ ∃ d, i = .wrKeyPush d := by
  cases h with
  | keyPush d => exact .inr (.inr (.inr ⟨d, rfl⟩))
  | clearedKey hform => exact .inr (hform.imp_right .inl)
  | _ => exact .inl (by simp)

/-- `ADDR` and `ADDR_CNT` change by their push and CLRADDR alone (rule R46). -/
theorem WriteResult.addr_eq_or : (b.addr = a.addr ∧ b.addrCnt = a.addrCnt) ∨
    i = .clraddr ∨ i = .wrCmd 0x00000005#32 ∨ ∃ d, i = .wrAddrPush d := by
  cases h with
  | addrPush d => exact .inr (.inr (.inr ⟨d, rfl⟩))
  | clearedAddr hform => exact .inr (hform.imp_right .inl)
  | _ => exact .inl (by simp)

/-- `FCNT` changes by its own write alone (rules R48, R162). -/
theorem WriteResult.fcnt_eq_or : b.fcnt = a.fcnt ∨ ∃ d, i = .wrFcnt d := by
  cases h with
  | fcnt d => exact .inr ⟨d, rfl⟩
  | _ => exact .inl (by simp)

/-- `DIR` changes by its own write alone (rules R49, R165). -/
theorem WriteResult.dir_eq_or : b.dir = a.dir ∨ ∃ d, i = .wrDir d := by
  cases h with
  | dir d => exact .inr ⟨d, rfl⟩
  | _ => exact .inl (by simp)

/-- `PLEN` changes by its own write alone (rules R51, R167). -/
theorem WriteResult.plen_eq_or : b.plen = a.plen ∨ ∃ d, i = .wrPlen d := by
  cases h with
  | plen d => exact .inr ⟨d, rfl⟩
  | _ => exact .inl (by simp)

/-- IN changes by the write of an IN word alone (rule R54). -/
theorem WriteResult.inBuf_eq_or : b.inBuf = a.inBuf ∨ ∃ k d, i = .wrIn k d := by
  cases h with
  | inWord k d => exact .inr ⟨k, d, rfl⟩
  | _ => exact .inl (by simp)

/-- No write reaches OUT (rule R55). -/
theorem WriteResult.outBuf_eq : b.outBuf = a.outBuf := by
  cases h <;> simp

/-- `ACCERR` is cleared by `STATUS` alone, and no write that takes effect sets it (rule R38). -/
theorem WriteResult.accerr_eq_or : b.accerr = a.accerr ∨
    ∃ d, i = .wrStatus d ∧ b.accerr = (a.accerr && !d.getLsbD 3) := by
  cases h with
  | status d => exact .inr ⟨d, rfl, rfl⟩
  | _ => exact .inl (by simp)

/-- `BUSY` and `PENDING` change by the start of a checked long command alone (rules R35, R56). -/
theorem WriteResult.busy_eq_or : (b.busy = a.busy ∧ b.pending = a.pending) ∨
    ∃ c : LongCmd, (i = c.instr ∨ i = .wrCmd c.word) ∧ b = startLong c (beginCommand a) ∧ a.keyCnt = 16 ∧
      (c ≠ .ecb → a.addrCnt = 4 ∧ a.plen.toNat ≤ cfg.bufBytes) := by
  cases h with
  | started c hform hkey hpayload => exact .inr ⟨c, hform, rfl, hkey, hpayload⟩
  | _ => exact .inl (by simp)

end

/-! ## Steps -/

/-- What a step from `s` to `t` does to the architectural state: nothing (a read, a write while held in reset, a release
of the reset input, an access elsewhere, a turn of the idle engine); a reset; a write discarded while busy; a write that
takes effect; the completion of the command in flight. -/
inductive StepResult (s t : State) : Prop
  | unchanged (harch : t.arch = s.arch) (hrst : t.port.rst = true → s.port.rst = true)
  | reset (hcause : s.nextAssertsReset = true ∨ ∃ i, s.nextInstr = some i ∧ i.isSoftReset = true)
      (harch : t.arch = Arch.reset)
  | discarded (i : Instr) (hnext : s.nextInstr = some i) (hwrite : i.isRead = false) (hsoft : i.isSoftReset = false)
      (hbusy : s.arch.busy = true) (harch : t.arch = setAccessError s.arch) (hrst : t.port.rst = false)
  | written (i : Instr) (hnext : s.nextInstr = some i) (hidle : s.arch.busy = false)
      (hresult : WriteResult s.cfg s.arch i t.arch) (hrst : t.port.rst = false)
  | completed (hengine : s.nextIsEngine = true) (hbusy : s.arch.busy = true) (harch : t.arch = complete s.arch)
      (hrst : t.port.rst = s.port.rst)

/-- The engine's turn completes the command in flight, or does nothing (rule R261). -/
theorem StepResult.engine {s u : State} (hengine : s.nextIsEngine = true) (harch : u.arch = s.arch)
    (hrst : u.port.rst = s.port.rst) : StepResult s (engineTurn u) := by
  cases hbusy : s.arch.busy with
  | true =>
    rw [engineTurn_busy u (by rw [harch, hbusy])]
    exact .completed hengine hbusy (by simp [harch]) hrst
  | false =>
    rw [engineTurn_idle u (by rw [harch, hbusy])]
    exact .unchanged harch fun h => hrst ▸ h

/-- A transaction is no step of the engine and leaves the reset input as it is (rules R150, R332). -/
theorem StepResult.transaction {s t : State} {i : Instr} {rest : List Input} (hnext : s.nextInstr = some i)
    (hexec : exec i (popInput s rest) = .next t) : StepResult s t := by
  obtain ⟨-, -, hrst, hcases⟩ := exec_cases i hexec
  rw [popInput_rst] at hrst
  rcases hcases with ⟨harch, -⟩ | ⟨hsoft, -, harch⟩ | ⟨hwrite, hsoft, hopen, hbusy, harch⟩ |
    ⟨-, -, ⟨hopen, hidle⟩, harch⟩
  · exact .unchanged harch fun h => hrst ▸ h
  · exact .reset (.inr ⟨i, hnext, hsoft⟩) harch
  · exact .discarded i hnext hwrite hsoft hbusy harch (hrst.trans hopen)
  · exact .written i hnext hidle (harch ▸ writeEffect_result s.cfg s.arch i) (hrst.trans hopen)

/-- Every step has one of these results. -/
theorem step_result {s t : State} (h : step s = .next t) : StepResult s t := by
  rcases step_cases h with ⟨i, rest, hnext, hexec⟩ | ⟨hengine, rfl | ⟨rest, rfl⟩⟩ | ⟨hassert, rest, rfl⟩ |
    ⟨rest, rfl⟩ | ⟨rest, rfl⟩
  · exact .transaction hnext hexec
  · exact .engine hengine rfl rfl
  · exact .engine hengine rfl rfl
  · exact .reset (.inl hassert) rfl
  · exact .unchanged rfl (by simp)
  · exact .unchanged rfl (by simp)

/-- `BUF_BYTES` is a constant of the machine (rule R53). -/
theorem step_cfg {s t : State} (h : step s = .next t) : t.cfg = s.cfg := by
  rcases step_cases h with ⟨i, rest, -, hexec⟩ | ⟨-, rfl | ⟨rest, rfl⟩⟩ | ⟨-, rest, rfl⟩ | ⟨rest, rfl⟩ | ⟨rest, rfl⟩
  · exact (exec_cases i hexec).1
  all_goals simp

/-- A step whose next input is a transaction executes it (rules R90, R122). -/
theorem step_of_nextInstr {s : State} {i : Instr} (h : s.nextInstr = some i) :
    ∃ rest, step s = exec i (popInput s rest) := by
  unfold State.nextInstr at h
  split at h
  case h_1 e rest hinputs =>
    cases h
    exact ⟨rest, by rw [step, takeTurn, hinputs]; rfl⟩
  case h_2 a rest hinputs =>
    split at h
    case isTrue hword =>
      cases h
      obtain ⟨hreach, hport⟩ := Bool.and_eq_true_iff.mp hword
      exact ⟨rest, by simp [step, takeTurn, hinputs, inputTurn, accessTurn, hreach, hport, hostTurn]⟩
    case isFalse => cases h
  case h_3 => cases h

end Sys2Proof.Machine
end

section
/-! SUPPORT. The invariant of rule R60, part by part: what each result of a step keeps. -/

namespace Sys2Proof.Machine

/-! ## The parts of the invariant -/

/-- The flags agree with one another and with `PENDING` (rules R35, R39, R56, R60). -/
structure StatusInv (a : Arch) : Prop where
  busy_pending : a.busy = true ↔ a.pending ≠ none
  busy_quiet : a.busy = true → a.done = false ∧ a.err = false ∧ a.errcode = .none ∧ a.rlen = 0#16
  err_code : a.err = false ↔ a.errcode = .none

/-- Key and address bytes beyond their counts are 0 (rules R43, R46). -/
structure TailInv (a : Arch) : Prop where
  key_tail : ∀ (j : Nat) (h : j < 16), a.keyCnt.val ≤ j → a.key[j] = 0x00#8
  addr_tail : ∀ (j : Nat) (h : j < 4), a.addrCnt.val ≤ j → a.addr[j] = 0x00#8

/-- A buffer is canonical and inside `BUF_BYTES` (rules R54, R55). -/
structure BufferInv (cfg : Config) (m : Memory) : Prop where
  canonical : m.wf = true
  within : m.within cfg.bufBytes = true

/-- The command in flight has the operands its issue checked (rules R264, R265, R266). -/
structure FlightInv (cfg : Config) (a : Arch) : Prop where
  pending_key : a.pending ≠ none → a.keyCnt = 16
  pending_payload : a.pending = some .crypt ∨ a.pending = some .ksgen →
    a.addrCnt = 4 ∧ a.plen.toNat ≤ cfg.bufBytes

/-- The part of the invariant that speaks of the architectural state. -/
structure ArchInv (cfg : Config) (a : Arch) : Prop where
  status : StatusInv a
  tail : TailInv a
  inBuf : BufferInv cfg a.inBuf
  outBuf : BufferInv cfg a.outBuf
  flight : FlightInv cfg a

/-- The invariant is its parts and the held reset input (rule R332). -/
theorem State.inv_iff (s : State) :
    s.Inv ↔ ArchInv s.cfg s.arch ∧ (s.port.rst = true → s.arch = Arch.reset) where
  mp h :=
    ⟨{ status := ⟨h.busy_pending, h.busy_quiet, h.err_code⟩
       tail := ⟨h.key_tail, h.addr_tail⟩
       inBuf := ⟨h.in_canonical, h.in_within⟩
       outBuf := ⟨h.out_canonical, h.out_within⟩
       flight := ⟨h.pending_key, h.pending_payload⟩ }, h.held_reset⟩
  mpr := fun ⟨⟨⟨hpending, hquiet, hcode⟩, ⟨hkey, haddr⟩, ⟨hinWf, hinIn⟩, ⟨houtWf, houtIn⟩, ⟨hfkey, hfpay⟩⟩, hheld⟩ =>
    ⟨hpending, hquiet, hcode, hkey, haddr, hinWf, houtWf, hinIn, houtIn, hfkey, hfpay, hheld⟩

/-- An idle machine has no command in flight, so no operand is bound. -/
theorem FlightInv.of_idle {cfg : Config} {a : Arch} (h : a.pending = none) : FlightInv cfg a where
  pending_key := by simp [h]
  pending_payload := by simp [h]

theorem StatusInv.pending_of_idle {a : Arch} (h : StatusInv a) (hidle : a.busy = false) : a.pending = none := by
  simpa [hidle] using h.busy_pending

/-- While idle the flags are bound by `ERR` and `ERRCODE` alone. -/
theorem StatusInv.of_idle {a : Arch} (hbusy : a.busy = false) (hpending : a.pending = none)
    (hcode : a.err = false ↔ a.errcode = .none) : StatusInv a where
  busy_pending := by simp [hbusy, hpending]
  busy_quiet := by simp [hbusy]
  err_code := hcode

/-! ## Reset and discarded writes -/

theorem BufferInv.empty (cfg : Config) : BufferInv cfg [] := ⟨rfl, rfl⟩

/-- The reset state meets the invariant whatever `BUF_BYTES` is (rules R60, R330). -/
theorem ArchInv.reset (cfg : Config) : ArchInv cfg Arch.reset where
  status := .of_idle rfl rfl (by decide)
  tail := by constructor <;> simp [Arch.reset]
  inBuf := .empty cfg
  outBuf := .empty cfg
  flight := .of_idle rfl

/-- `ACCERR` is no part of the invariant. -/
theorem ArchInv.setAccessError {cfg : Config} {a : Arch} (h : ArchInv cfg a) : ArchInv cfg (setAccessError a) where
  status := ⟨h.status.busy_pending, h.status.busy_quiet, h.status.err_code⟩
  tail := ⟨h.tail.key_tail, h.tail.addr_tail⟩
  inBuf := h.inBuf
  outBuf := h.outBuf
  flight := ⟨h.flight.pending_key, h.flight.pending_payload⟩

/-! ## Buffers -/

/-- Bytes written inside `BUF_BYTES` keep a buffer canonical and inside it. -/
theorem BufferInv.writeBytes {cfg : Config} {m : Memory} (h : BufferInv cfg m) {n : Nat} {bs : List Byte}
    (hn : n + bs.length ≤ cfg.bufBytes) : BufferInv cfg (m.writeBytes n bs) where
  canonical := Memory.writeBytes_wf bs m n h.canonical
  within := Memory.writeBytes_within bs m n _ h.within hn

/-- `BUF_BYTES` is a multiple of 4, so a buffer word that begins inside it lies inside it (rules R10, R83). -/
theorem bufBytes_word_within (cfg : Config) {k : Nat} (h : 4 * k < cfg.bufBytes) : 4 * k + 4 ≤ cfg.bufBytes := by
  unfold Config.bufBytes at *
  omega

/-- Every buffer holds a whole block (rule R10). -/
theorem bufBytes_block_within (cfg : Config) : 16 ≤ cfg.bufBytes := by
  unfold Config.bufBytes
  omega

theorem BufferInv.writeInWord {cfg : Config} {a : Arch} (h : BufferInv cfg a.inBuf) (k : Nat) (d : Word) :
    BufferInv cfg (writeInWord cfg k d a).inBuf := by
  unfold Machine.writeInWord
  split
  case isTrue hk => exact h.writeBytes (bufBytes_word_within cfg hk)
  case isFalse => exact h

/-- The result of a command in flight fits into OUT (rules R242, R261, R265). -/
theorem FlightInv.result_within {cfg : Config} {a : Arch} {c : LongCmd} (h : FlightInv cfg a)
    (hc : a.pending = some c) : (resultBytes a c).length ≤ cfg.bufBytes := by
  rw [resultBytes_length]
  cases c with
  | crypt => exact (h.pending_payload (.inl hc)).2
  | ksgen => exact (h.pending_payload (.inr hc)).2
  | ecb => exact bufBytes_block_within cfg

/-! ## Key and address bytes -/

theorem TailInv.pushKey {a : Arch} (h : TailInv a) (v : Byte) : TailInv (pushKey v a) where
  key_tail := by
    intro j hj hcnt
    unfold Machine.pushKey at hcnt ⊢
    split at hcnt
    case isTrue hroom =>
      simp only [hroom, ↓reduceDIte]
      rw [Vector.getElem_set_ne _ _ (by simp at hcnt; omega)]
      exact h.key_tail j hj (by simp at hcnt; omega)
    case isFalse => simp at hcnt; omega
  addr_tail := by simpa using h.addr_tail

theorem TailInv.pushAddr {a : Arch} (h : TailInv a) (v : Byte) : TailInv (pushAddr v a) where
  key_tail := by simpa using h.key_tail
  addr_tail := by
    intro j hj hcnt
    unfold Machine.pushAddr at hcnt ⊢
    split at hcnt
    case isTrue hroom =>
      simp only [hroom, ↓reduceDIte]
      rw [Vector.getElem_set_ne _ _ (by simp at hcnt; omega)]
      exact h.addr_tail j hj (by simp at hcnt; omega)
    case isFalse => simp at hcnt; omega

theorem TailInv.clearKey {a : Arch} (h : TailInv a) : TailInv (clearKey a) where
  key_tail := by simp
  addr_tail := h.addr_tail

theorem TailInv.clearAddr {a : Arch} (h : TailInv a) : TailInv (clearAddr a) where
  key_tail := h.key_tail
  addr_tail := by simp

/-! ## Writes that take effect -/

section
variable {cfg : Config} {a b : Arch} {i : Instr} (h : WriteResult cfg a i b)
include h

theorem WriteResult.tailInv (ha : TailInv a) : TailInv b := by
  cases h with
  | keyPush d => exact ha.pushKey _
  | addrPush d => exact ha.pushAddr _
  | clearedKey => exact TailInv.clearKey ⟨ha.key_tail, ha.addr_tail⟩
  | clearedAddr => exact TailInv.clearAddr ⟨ha.key_tail, ha.addr_tail⟩
  | _ => exact ⟨by simpa using ha.key_tail, by simpa using ha.addr_tail⟩

theorem WriteResult.inBufInv (ha : BufferInv cfg a.inBuf) : BufferInv cfg b.inBuf := by
  cases h with
  | inWord k d => exact ha.writeInWord _ d
  | _ => simpa using ha

/-- `ERR` is set exactly with a code (rules R39, R302). -/
theorem WriteResult.err_code (ha : a.err = false ↔ a.errcode = .none) : b.err = false ↔ b.errcode = .none := by
  cases h with
  | status d =>
    rw [clearFlags_err, clearFlags_errcode]
    cases d.getLsbD 2 <;> simp [ha]
  | failed i hcode => simp [hcode]
  | _ => simp [ha]

/-- The start of a long command leaves the flags quiet; any other write leaves an idle machine idle. -/
theorem WriteResult.statusInv (ha : StatusInv a) (hidle : a.busy = false) : StatusInv b := by
  have hcode := h.err_code ha.err_code
  rcases h.busy_eq_or with ⟨hbusy, hpending⟩ | ⟨c, -, rfl, -, -⟩
  · exact .of_idle (hbusy.trans hidle) (hpending.trans (ha.pending_of_idle hidle)) hcode
  · exact ⟨by simp, by simp, hcode⟩

/-- A long command starts with its checked operands; any other write leaves no command in flight. -/
theorem WriteResult.flightInv (ha : a.pending = none) : FlightInv cfg b := by
  rcases h.busy_eq_or with ⟨-, hpending⟩ | ⟨c, -, rfl, hkey, hpayload⟩
  · exact .of_idle (hpending.trans ha)
  · refine ⟨fun _ => hkey, fun hc => hpayload ?_⟩
    rintro rfl
    simp at hc

theorem WriteResult.archInv (ha : ArchInv cfg a) (hidle : a.busy = false) : ArchInv cfg b where
  status := h.statusInv ha.status hidle
  tail := h.tailInv ha.tail
  inBuf := h.inBufInv ha.inBuf
  outBuf := h.outBuf_eq ▸ ha.outBuf
  flight := h.flightInv (ha.status.pending_of_idle hidle)

end

/-! ## Completion -/

theorem ArchInv.complete {cfg : Config} {a : Arch} (h : ArchInv cfg a) (hbusy : a.busy = true) :
    ArchInv cfg (complete a) where
  status := .of_idle (by simp) (by simp) (by simpa using h.status.err_code)
  tail := ⟨by simpa using h.tail.key_tail, by simpa using h.tail.addr_tail⟩
  inBuf := by simpa using h.inBuf
  outBuf := by
    obtain ⟨c, hc⟩ := Option.ne_none_iff_exists'.mp (h.status.busy_pending.mp hbusy)
    rw [complete_outBuf a c hc]
    exact h.outBuf.writeBytes (by simpa using h.flight.result_within hc)
  flight := .of_idle (by simp)

end Sys2Proof.Machine
end

section
/-! PROOFS. The statements of the family 10_state.md. -/

namespace Sys2Proof.Proofs.ArchState
open Sys2Proof.Machine

/-- Settles O15, by the five results a step can have: each keeps every part of the invariant. -/
theorem everyStepKeepsTheInvariant : Obligations.EveryStepKeepsTheInvariant := by
  intro s t hinv hstep
  rw [State.inv_iff] at hinv ⊢
  obtain ⟨harch, hheld⟩ := hinv
  rw [step_cfg hstep]
  cases step_result hstep with
  | unchanged heq hrst => exact ⟨heq ▸ harch, fun h => heq.trans (hheld (hrst h))⟩
  | reset _ heq => exact ⟨heq ▸ .reset _, fun _ => heq⟩
  | discarded _ _ _ _ _ heq hrst => exact ⟨heq ▸ harch.setAccessError, by simp [hrst]⟩
  | written _ _ hidle hresult hrst => exact ⟨hresult.archInv harch hidle, by simp [hrst]⟩
  | completed _ hbusy heq hrst =>
    refine ⟨heq ▸ harch.complete hbusy, fun h => ?_⟩
    rw [hheld (hrst ▸ h)] at hbusy
    cases hbusy

/-- Settles O14: at reset nothing is in flight, the counts are 0 and the buffers are empty. -/
theorem invariantHoldsAtReset : Obligations.InvariantHoldsAtReset :=
  (State.inv_iff _).mpr ⟨.reset _, fun _ => rfl⟩

end Sys2Proof.Proofs.ArchState
end

section
/-! SUPPORT. Changes of one element by a step, from the results of steps and writes. -/

namespace Sys2Proof.Machine

/-- An element that neither `ACCERR` nor the completion touches changes only by a reset or a write that takes effect. -/
theorem StepResult.reset_or_written_of_ne {s t : State} (h : StepResult s t) {α : Type} (element : Arch → α)
    (haccerr : ∀ a, element (setAccessError a) = element a) (hcomplete : ∀ a, element (complete a) = element a)
    (hne : element t.arch ≠ element s.arch) :
    (s.nextAssertsReset = true ∨ ∃ i, s.nextInstr = some i ∧ i.isSoftReset = true) ∨
    ∃ i, s.nextInstr = some i ∧ WriteResult s.cfg s.arch i t.arch := by
  cases h with
  | unchanged heq => exact absurd (congrArg element heq) hne
  | reset hcause => exact .inl hcause
  | discarded _ _ _ _ _ heq => exact absurd (heq ▸ haccerr s.arch) hne
  | written i hnext _ hresult => exact .inr ⟨i, hnext, hresult⟩
  | completed _ _ heq => exact absurd (heq ▸ hcomplete s.arch) hne

/-- A write ends "`ERR` implies `DONE`" only by clearing `DONE` and not `ERR` (rules R60, R156). -/
theorem WriteResult.clears_done_alone {cfg : Config} {a b : Arch} {i : Instr} (h : WriteResult cfg a i b)
    (ha : a.err = true → a.done = true) (herr : b.err = true) (hdone : b.done = false) :
    ∃ d, i = .wrStatus d ∧ d.getLsbD 1 = true ∧ d.getLsbD 2 = false := by
  cases h with
  | status d =>
    rw [clearFlags_err, Bool.and_eq_true, Bool.not_eq_true'] at herr
    rw [clearFlags_done, ha herr.1, Bool.true_and, Bool.not_eq_false'] at hdone
    exact ⟨d, rfl, hdone, herr.2⟩
  | started => cases herr
  | failed => cases hdone
  | clearedKey => cases hdone
  | clearedAddr => cases hdone
  | _ => simp [ha (by simpa using herr)] at hdone

end Sys2Proof.Machine
end

section
/-! PROOFS. The statements of the family 10_state.md about every step. -/

namespace Sys2Proof.Proofs.ArchState
open Sys2Proof.Machine

/-- Settles O16: of the writes that take effect only that of `STATUS` can leave `ERR` set and `DONE` clear, and
nothing else but a write changes `DONE` from 1 to 0 beside `ERR`. -/
theorem errImpliesDoneUntilDoneIsClearedAlone : Obligations.ErrImpliesDoneUntilDoneIsClearedAlone := by
  intro s t _ hstep hs herr hdone
  cases step_result hstep with
  | unchanged heq =>
    rw [heq] at herr hdone
    simp [hs herr] at hdone
  | reset _ heq => simp [heq, Arch.reset] at herr
  | discarded _ _ _ _ _ heq =>
    rw [heq] at herr hdone
    simp [hs herr] at hdone
  | written i hnext hidle hresult =>
    obtain ⟨d, rfl, hclears, hkeeps⟩ := hresult.clears_done_alone hs herr hdone
    exact ⟨d, hnext, hclears, hkeeps, hidle⟩
  | completed _ _ heq => simp [heq] at hdone

/-- Settles O54: of the five results of a step only a write on an idle machine can raise `BUSY`, and then it started a
long command; a write that meets a busy machine leaves `BUSY` set. -/
theorem busyRisesAndFallsOnlyAsStated : Obligations.BusyRisesAndFallsOnlyAsStated := by
  intro s t hstep
  refine ⟨fun hidle hrises => ?_, fun hbusy hfalls => ?_⟩
  · cases step_result hstep with
    | unchanged heq => simp [heq, hidle] at hrises
    | reset _ heq => simp [heq, Arch.reset] at hrises
    | discarded _ _ _ _ hbusy => simp [hidle] at hbusy
    | completed _ hbusy => simp [hidle] at hbusy
    | written i hnext _ hresult =>
      rcases hresult.busy_eq_or with ⟨hsame, -⟩ | ⟨c, hform, -, hkey, hpayload⟩
      · simp [hsame, hidle] at hrises
      · refine ⟨hkey, i, hnext, ?_⟩
        cases c with
        | ecb => exact hform.imp_right .inl
        | crypt =>
          refine .inr (.inr ⟨⟨hkey, hpayload (by decide)⟩, ?_⟩)
          rcases hform with rfl | rfl <;> simp [LongCmd.instr, LongCmd.word]
        | ksgen =>
          refine .inr (.inr ⟨⟨hkey, hpayload (by decide)⟩, ?_⟩)
          rcases hform with rfl | rfl <;> simp [LongCmd.instr, LongCmd.word]
  · cases step_result hstep with
    | unchanged heq => simp [heq, hbusy] at hfalls
    | reset hcause => exact .inr hcause
    | discarded _ _ _ _ _ heq => simp [heq, hbusy] at hfalls
    | written _ _ hidle => simp [hbusy] at hidle
    | completed hengine => exact .inl hengine

/-- Settles O55: the discarded write sets `ACCERR`; of the writes that take effect only that of `STATUS` changes it, and
it sets none. -/
theorem accerrIsSticky : Obligations.AccerrIsSticky := by
  refine ⟨fun _ _ => rfl, fun s t hstep => ⟨fun i hnext hopen hbusy hwrite hsoft => ?_, fun hclear hset => ?_,
    fun hset hclear => ?_⟩⟩
  · obtain ⟨rest, hexec⟩ := step_of_nextInstr hnext
    rw [hstep, exec_write i _ hwrite hsoft, hostWrite_busy (popInput s rest) _ hopen hbusy] at hexec
    cases hexec
    rfl
  · cases step_result hstep with
    | unchanged heq => simp [heq, hclear] at hset
    | reset _ heq => simp [heq, Arch.reset] at hset
    | discarded i hnext hwrite hsoft hbusy => exact ⟨hbusy, i, hnext, hwrite, hsoft⟩
    | written _ _ _ hresult =>
      rcases hresult.accerr_eq_or with hsame | ⟨d, -, hcleared⟩
      · simp [hsame, hclear] at hset
      · simp [hcleared, hclear] at hset
    | completed _ _ heq => simp [heq, hclear] at hset
  · cases step_result hstep with
    | unchanged heq => simp [heq, hset] at hclear
    | reset hcause =>
      exact hcause.imp_right fun ⟨i, hnext, hsoft⟩ => ⟨i, hnext, .inl hsoft⟩
    | discarded _ _ _ _ _ heq => simp [heq] at hclear
    | written i hnext hidle hresult =>
      rcases hresult.accerr_eq_or with hsame | ⟨d, hi, hcleared⟩
      · simp [hsame, hset] at hclear
      · rw [hcleared, hset, Bool.true_and, Bool.not_eq_false'] at hclear
        exact .inr ⟨i, hnext, .inr ⟨hidle, d, hi, hclear⟩⟩
    | completed _ _ heq => simp [heq, hset] at hclear

/-- Settles O56: the completion and `ACCERR` touch neither pair, and of the writes that take effect only the push and
the clear of a pair do. -/
theorem keyAndAddressChangeOnlyAsStated : Obligations.KeyAndAddressChangeOnlyAsStated := by
  intro s t hstep
  refine ⟨fun hne => ?_, fun hne => ?_⟩
  · rcases (step_result hstep).reset_or_written_of_ne (fun a => (a.key, a.keyCnt)) (by simp) (by simp)
      (by simpa [Prod.ext_iff, imp_iff_not_or] using hne) with hcause | ⟨i, hnext, hresult⟩
    · exact hcause.imp_right fun ⟨i, hnext, hsoft⟩ => ⟨i, hnext, .inl hsoft⟩
    · exact .inr ⟨i, hnext, .inr (hresult.key_eq_or.resolve_left (by simpa [imp_iff_not_or] using hne))⟩
  · rcases (step_result hstep).reset_or_written_of_ne (fun a => (a.addr, a.addrCnt)) (by simp) (by simp)
      (by simpa [Prod.ext_iff, imp_iff_not_or] using hne) with hcause | ⟨i, hnext, hresult⟩
    · exact hcause.imp_right fun ⟨i, hnext, hsoft⟩ => ⟨i, hnext, .inl hsoft⟩
    · exact .inr ⟨i, hnext, .inr (hresult.addr_eq_or.resolve_left (by simpa [imp_iff_not_or] using hne))⟩

/-- Settles O57: of the writes that take effect only that of an IN word changes IN and none changes OUT. -/
theorem buffersChangeOnlyByTheirOwner : Obligations.BuffersChangeOnlyByTheirOwner := by
  intro s t hstep
  refine ⟨fun hne => ?_, fun hne => ?_⟩
  · rcases (step_result hstep).reset_or_written_of_ne Arch.inBuf (by simp) (by simp) hne with
      hcause | ⟨i, hnext, hresult⟩
    · exact hcause.imp_right fun ⟨i, hnext, hsoft⟩ => ⟨i, hnext, .inl hsoft⟩
    · exact .inr ⟨i, hnext, .inr (hresult.inBuf_eq_or.resolve_left hne)⟩
  · cases step_result hstep with
    | unchanged heq => exact absurd (congrArg Arch.outBuf heq) hne
    | reset hcause => exact hcause.imp_right .inr
    | discarded _ _ _ _ _ heq => exact absurd (congrArg Arch.outBuf heq) hne
    | written _ _ _ hresult => exact absurd hresult.outBuf_eq hne
    | completed hengine hbusy => exact .inr (.inl ⟨hengine, hbusy⟩)

end Sys2Proof.Proofs.ArchState
end

section
/-! SUPPORT. Transactions on an idle machine, and what they keep of the operands and hide of `KEY` and `ADDR`. -/

namespace Sys2Proof.Machine

/-! ## Writes to an idle machine -/

theorem exec_write_idle {i : Instr} {s : State} (hidle : s.acceptsWrites) (hwrite : i.isRead = false)
    (hsoft : i.isSoftReset = false) : exec i s = .next (s.withArch (writeEffect s.cfg i s.arch)) := by
  rw [exec_write i s hwrite hsoft, hostWrite_idle s _ hidle]

/-- ECB with a whole key starts (rule R265). -/
theorem issueEcb_of_key {a : Arch} (h : a.keyCnt = 16) : issueEcb a = startLong .ecb a := by
  rw [issueEcb, (keyCheck_none a).mpr h, startChecked]

/-- CRYPT and KSGEN with loaded operands start (rules R264, R266). -/
theorem startChecked_of_loaded {cfg : Config} {a : Arch}
    (h : a.keyCnt = 16 ∧ a.addrCnt = 4 ∧ a.plen.toNat ≤ cfg.bufBytes) (c : LongCmd) :
    startChecked (payloadCheck cfg a) c a = startLong c a := by
  rw [(payloadCheck_none cfg a).mpr h, startChecked]

/-! ## Fields of a word -/

/-- A field at the bottom of a word, zero-extended, is the word under the field's mask (rule R40). -/
theorem setWidth_lowField (d : Word) (w : Nat) :
    (d.extractLsb' 0 w).setWidth 32 = d &&& BitVec.ofNat 32 (2 ^ w - 1) := by
  apply BitVec.eq_of_getLsbD_eq
  intro j hj
  simp only [BitVec.getLsbD_setWidth, BitVec.getLsbD_extractLsb', BitVec.getLsbD_and, BitVec.getLsbD_ofNat,
    Nat.testBit_two_pow_sub_one, hj, decide_true, Bool.true_and, Nat.zero_add, Bool.and_comm]

/-- Bit 0 of a word as a field (rule R41). -/
theorem ofBool_ieField (d : Word) : BitVec.ofBool (ieField d) = d.extractLsb' 0 1 := by
  apply BitVec.eq_of_getLsbD_eq
  intro j hj
  simp [ieField, show j = 0 by omega]

/-- A buffer word is its four lanes (rules R83, R87). -/
theorem wordOfLanes_laneByte (d : Word) :
    wordOfLanes (laneByte d 0) (laneByte d 1) (laneByte d 2) (laneByte d 3) = d := by
  unfold wordOfLanes laneByte
  iterate 3 rw [BitVec.extractLsb'_append_extractLsb'_eq_extractLsb' (by decide)]
  exact BitVec.extractLsb'_eq_self

/-- A buffer word reads back as written (rules R83, R170, R171). -/
theorem Memory.readWord_writeWord {m : Memory} (h : m.wf = true) (k : Nat) (d : Word) :
    (m.writeWord k d).readWord k = d := by
  simp [Memory.readWord, Memory.writeWord, Memory.read_writeBytes _ _ _ _ h, wordOfLanes_laneByte]

/-! ## `KEY` and `ADDR` stay hidden -/

/-- The architectural state with another `KEY` and `ADDR`. -/
def Arch.withSecrets (a : Arch) (key : Vector Byte 16) (addr : Vector Byte 4) : Arch :=
  { a with key := key, addr := addr }

/-- The state with another `KEY` and `ADDR`. -/
def State.withSecrets (s : State) (key : Vector Byte 16) (addr : Vector Byte 4) : State :=
  s.withArch (s.arch.withSecrets key addr)

/-- An effect that no element but `KEY` and `ADDR` shows the old `KEY` and `ADDR` through. -/
def HidesSecrets (f : Arch → Arch) : Prop :=
  ∀ a key addr, ∃ key' addr', f (a.withSecrets key addr) = (f a).withSecrets key' addr'

theorem HidesSecrets.afterBegin {f : Arch → Arch} (hf : HidesSecrets f) :
    HidesSecrets fun a => f (beginCommand a) := fun a key addr => hf (beginCommand a) key addr

theorem HidesSecrets.id : HidesSecrets fun a => a := fun _ key addr => ⟨key, addr, rfl⟩

theorem HidesSecrets.raiseCmdError (code : ErrCode) : HidesSecrets (raiseCmdError code) :=
  fun _ key addr => ⟨key, addr, rfl⟩

theorem HidesSecrets.clearKey : HidesSecrets clearKey := fun _ _ addr => ⟨_, addr, rfl⟩

theorem HidesSecrets.clearAddr : HidesSecrets clearAddr := fun _ key _ => ⟨key, _, rfl⟩

theorem HidesSecrets.pushKey (v : Byte) : HidesSecrets (pushKey v) := by
  intro a key addr
  by_cases hroom : a.keyCnt.val < 16
  · exact ⟨key.set a.keyCnt.val v, addr, by simp [Machine.pushKey, Arch.withSecrets, hroom]⟩
  · exact ⟨key, addr, by simp [Machine.pushKey, Arch.withSecrets, hroom]⟩

theorem HidesSecrets.pushAddr (v : Byte) : HidesSecrets (pushAddr v) := by
  intro a key addr
  by_cases hroom : a.addrCnt.val < 4
  · exact ⟨key, addr.set a.addrCnt.val v, by simp [Machine.pushAddr, Arch.withSecrets, hroom]⟩
  · exact ⟨key, addr, by simp [Machine.pushAddr, Arch.withSecrets, hroom]⟩

theorem HidesSecrets.writeInWord (cfg : Config) (k : Nat) (d : Word) : HidesSecrets (writeInWord cfg k d) := by
  intro a key addr
  by_cases hk : 4 * k < cfg.bufBytes
  · exact ⟨key, addr, by simp [Machine.writeInWord, Arch.withSecrets, hk]⟩
  · exact ⟨key, addr, by simp [Machine.writeInWord, Arch.withSecrets, hk]⟩

/-- The checks read the counts and `PLEN`, never the bytes (rule R301). -/
theorem HidesSecrets.startChecked {check : Arch → Option ErrCode}
    (hcheck : ∀ a key addr, check (a.withSecrets key addr) = check a) (c : LongCmd) :
    HidesSecrets fun a => startChecked (check a) c a := by
  intro a key addr
  refine ⟨key, addr, ?_⟩
  simp only [hcheck]
  cases check a <;> rfl

theorem HidesSecrets.issueCrypt (cfg : Config) : HidesSecrets (issueCrypt cfg) :=
  .startChecked (fun _ _ _ => rfl) .crypt

theorem HidesSecrets.issueEcb : HidesSecrets issueEcb := .startChecked (fun _ _ _ => rfl) .ecb

theorem HidesSecrets.issueKsgen (cfg : Config) : HidesSecrets (issueKsgen cfg) :=
  .startChecked (fun _ _ _ => rfl) .ksgen

theorem HidesSecrets.issue (cfg : Config) (c : Word) : HidesSecrets (issue cfg c) := by
  unfold Machine.issue
  split_ifs
  · exact .id
  · exact .afterBegin (.issueCrypt cfg)
  · exact .afterBegin .issueEcb
  · exact .afterBegin (.issueKsgen cfg)
  · exact .afterBegin .clearKey
  · exact .afterBegin .clearAddr
  · exact .afterBegin (.raiseCmdError _)

theorem HidesSecrets.writeEffect (cfg : Config) (i : Instr) : HidesSecrets (writeEffect cfg i) := by
  cases i with
  | wrKeyPush d => exact .pushKey _
  | wrAddrPush d => exact .pushAddr _
  | wrIn k d => exact .writeInWord cfg _ d
  | wrCmd c => exact .issue cfg c
  | crypt => exact .afterBegin (.issueCrypt cfg)
  | ecb => exact .afterBegin .issueEcb
  | ksgen => exact .afterBegin (.issueKsgen cfg)
  | clrkey => exact .afterBegin .clearKey
  | clraddr => exact .afterBegin .clearAddr
  | illegal c => exact .afterBegin (.raiseCmdError _)
  | _ => exact fun _ key addr => ⟨key, addr, rfl⟩

/-- A write whose effect hides the secrets hides them while busy and while held in reset too. -/
theorem HidesSecrets.hostWrite {f : Arch → Arch} (hf : HidesSecrets f) (s : State) (key : Vector Byte 16)
    (addr : Vector Byte 4) : ∃ key' addr',
      hostWrite (s.withSecrets key addr) f = (hostWrite s f).withSecrets key' addr' := by
  cases hrst : s.port.rst with
  | true =>
    rw [hostWrite_held s f hrst, hostWrite_held (s.withSecrets key addr) f hrst]
    exact ⟨key, addr, rfl⟩
  | false =>
    cases hbusy : s.arch.busy with
    | true =>
      rw [hostWrite_busy s f hrst hbusy, hostWrite_busy (s.withSecrets key addr) f hrst hbusy]
      exact ⟨key, addr, rfl⟩
    | false =>
      rw [hostWrite_idle s f ⟨hrst, hbusy⟩, hostWrite_idle (s.withSecrets key addr) f ⟨hrst, hbusy⟩]
      obtain ⟨key', addr', h⟩ := hf s.arch key addr
      exact ⟨key', addr', congrArg s.withArch h⟩

/-- A soft reset forgets the secrets, or is discarded (rules R269, R332). -/
theorem hostSoftReset_withSecrets (s : State) (key : Vector Byte 16) (addr : Vector Byte 4) : ∃ key' addr',
    hostSoftReset (s.withSecrets key addr) = (hostSoftReset s).withSecrets key' addr' := by
  cases hrst : s.port.rst with
  | true =>
    rw [hostSoftReset_held s hrst, hostSoftReset_held (s.withSecrets key addr) hrst]
    exact ⟨key, addr, rfl⟩
  | false =>
    rw [hostSoftReset_open s hrst, hostSoftReset_open (s.withSecrets key addr) hrst]
    exact ⟨Arch.reset.key, Arch.reset.addr, rfl⟩

/-- Every read returns one word whatever `KEY` and `ADDR` are (rules R152, R310). -/
theorem exec_read_withSecrets (i : Instr) (s : State) (key : Vector Byte 16) (addr : Vector Byte 4)
    (h : i.isRead = true) : ∃ d, exec i s = .next (s.answered d) ∧
      exec i (s.withSecrets key addr) = .next ((s.withSecrets key addr).answered d) := by
  cases i <;> cases h <;> exact ⟨_, rfl, rfl⟩

/-! ## What a transaction other than a soft reset leaves -/

/-- The two forms of a soft reset (rules R150, R269). -/
theorem isSoftReset_iff (i : Instr) : i.isSoftReset = true ↔ i = .srst ∨ i = .wrCmd 0x0000000F#32 := by
  cases i <;> simp [Instr.isSoftReset]

/-- The result of a write, or the old state with `ACCERR`; a read has the result of a write that does nothing. -/
theorem exec_result {i : Instr} {s t : State} (h : exec i s = .next t) (hsoft : i.isSoftReset = false) :
    t.arch = setAccessError s.arch ∨ WriteResult s.cfg s.arch i t.arch := by
  obtain ⟨-, -, -, ⟨harch, -⟩ | ⟨hsoft', -⟩ | ⟨-, -, -, -, harch⟩ | ⟨-, -, -, harch⟩⟩ := exec_cases i h
  · exact .inr (harch ▸ .nothing i)
  · simp [hsoft] at hsoft'
  · exact .inl harch
  · exact .inr (harch ▸ writeEffect_result s.cfg s.arch i)

end Sys2Proof.Machine
end

section
/-! PROOFS. The statements of the family 10_state.md about single transactions. -/

namespace Sys2Proof.Proofs.ArchState
open Sys2Proof.Machine

/-- Settles O22: a read's word and a write's effect show nothing of the two elements, and a soft reset forgets them. -/
theorem keyAndAddressAreNeverReadable : Obligations.KeyAndAddressAreNeverReadable := by
  intro i s key addr
  rcases Instr_kinds i with hread | hsoft | ⟨hwrite, hsoft⟩
  · obtain ⟨d, hs, hs'⟩ := exec_read_withSecrets i s key addr hread
    exact ⟨_, key, addr, hs, hs'⟩
  · obtain ⟨key', addr', h⟩ := hostSoftReset_withSecrets s key addr
    exact ⟨_, key', addr', exec_softReset i s hsoft, (exec_softReset i _ hsoft).trans (congrArg _ h)⟩
  · obtain ⟨key', addr', h⟩ := (HidesSecrets.writeEffect s.cfg i).hostWrite s key addr
    exact ⟨_, key', addr', exec_write i s hwrite hsoft, (exec_write i _ hwrite hsoft).trans (congrArg _ h)⟩

/-- Settles O58: the completion leaves `DONE` set, a write of `STATUS` or `INTEN` leaves the level of its own bit, and a
long command that starts leaves `DONE` clear. -/
theorem interruptFollowsEnableAndDone : Obligations.InterruptFollowsEnableAndDone := by
  refine ⟨fun s hbusy => by simp [engineTurn_busy s hbusy, State.irq], fun s d hidle => ⟨?_, ?_, fun hkey => ?_,
    fun hloaded => ⟨?_, ?_⟩⟩⟩
  · exact ⟨_, exec_write_idle hidle rfl rfl, (Bool.and_assoc ..).symm⟩
  · exact ⟨_, exec_write_idle hidle rfl rfl, Bool.and_comm ..⟩
  · exact ⟨_, exec_write_idle hidle rfl rfl, by
      simp [State.irq, writeEffect, issueEcb_of_key (a := beginCommand s.arch) hkey]⟩
  · exact ⟨_, exec_write_idle hidle rfl rfl, by
      simp [State.irq, writeEffect, issueCrypt, startChecked_of_loaded (a := beginCommand s.arch) hloaded]⟩
  · exact ⟨_, exec_write_idle hidle rfl rfl, by
      simp [State.irq, writeEffect, issueKsgen, startChecked_of_loaded (a := beginCommand s.arch) hloaded]⟩

/-- Settles O26: each write stores its field in one element, and the read of that element zero-extends the field. -/
theorem writtenFieldsReadBack : Obligations.WrittenFieldsReadBack := by
  intro s d k hidle hwf
  have hread (a : Arch) (v : Word) : hostRead (s.withArch a) v = (s.withArch a).answered v :=
    hostRead_open _ _ hidle.1
  refine ⟨⟨_, exec_write_idle hidle rfl rfl, ?_⟩, ⟨_, exec_write_idle hidle rfl rfl, ?_⟩,
    ⟨_, exec_write_idle hidle rfl rfl, ?_⟩, ⟨_, exec_write_idle hidle rfl rfl, ?_⟩,
    ⟨_, exec_write_idle hidle rfl rfl, ?_⟩⟩
  · simp [exec, execRdInten, hread, writeEffect, ofBool_ieField, setWidth_lowField]
  · simp [exec, execRdFcnt, hread, writeEffect]
  · simp [exec, execRdDir, hread, writeEffect, dirField, setWidth_lowField]
  · simp [exec, execRdPlen, hread, writeEffect, plenField, setWidth_lowField]
  · by_cases hk : 4 * k.toNat < s.cfg.bufBytes
    · simp [exec, execRdIn, hread, writeEffect, inWindowWord, writeInWord, hk, Memory.readWord_writeWord hwf]
    · simp [exec, execRdIn, hread, writeEffect, inWindowWord, hk]

/-- Settles O37: a command is none of the writes that change an operand, in whichever form it comes. -/
theorem commandsKeepTheOperands : Obligations.CommandsKeepTheOperands := by
  refine ⟨fun s t i hi hexec => ?_, fun s t i hi hopen hexec => ?_, ?_⟩
  · have hsoft : i.isSoftReset = false := Bool.eq_false_iff.mpr fun h => by
      rcases (isSoftReset_iff i).mp h with rfl | rfl <;> simp at hi
    rcases exec_result hexec hsoft with heq | hresult
    · simp [heq]
    · refine ⟨hresult.fcnt_eq_or.resolve_right ?_, hresult.dir_eq_or.resolve_right ?_,
        hresult.plen_eq_or.resolve_right ?_, hresult.inBuf_eq_or.resolve_right ?_,
        fun hkey hcmd => hresult.key_eq_or.resolve_right ?_, fun haddr hcmd => hresult.addr_eq_or.resolve_right ?_⟩
      · rintro ⟨d, rfl⟩
        simp at hi
      · rintro ⟨d, rfl⟩
        simp at hi
      · rintro ⟨d, rfl⟩
        simp at hi
      · rintro ⟨k, d, rfl⟩
        simp at hi
      · rintro (rfl | rfl | ⟨d, rfl⟩)
        · exact hkey rfl
        · exact hcmd rfl
        · simp at hi
      · rintro (rfl | rfl | ⟨d, rfl⟩)
        · exact haddr rfl
        · exact hcmd rfl
        · simp at hi
  · rw [exec_softReset i s ((isSoftReset_iff i).mpr hi), hostSoftReset_open s hopen] at hexec
    cases hexec
    rfl
  · rintro s t rfl
    cases hbusy : s.arch.busy with
    | true => simp [engineTurn_busy s hbusy]
    | false => simp [engineTurn_idle s hbusy]

end Sys2Proof.Proofs.ArchState
end

section
/-! PROOFS. The statements of the family 20_memory.md: reads at the port, and the operands of a command in flight. -/

namespace Sys2Proof.Proofs.MemoryMap
open Sys2Proof.Machine

/-- Settles O21: a read's word is a function of the parameter and the architectural state (and is 0 while the reset
input is asserted); the record of reads is none of these, so the second read meets the same word. -/
theorem readsChangeNothingAndRepeat : Obligations.ReadsChangeNothingAndRepeat := by
  intro i s hread
  obtain ⟨word, hexec⟩ := exec_read i hread
  refine ⟨if s.port.rst then 0x00000000#32 else word s.cfg s.arch, ?_, ?_⟩
  · rw [hexec, hostRead_eq]
  · rw [hexec, hostRead_eq, State.answered_cfg, State.answered_arch, State.answered_rst]

/-- Settles O53: of the five results of a step a write that takes effect needs an idle machine, a reset leaves the reset
state, and neither `ACCERR` nor the completion is an operand. -/
theorem operandsStayFixedWhileBusy : Obligations.OperandsStayFixedWhileBusy := by
  intro s t hbusy hstep
  cases step_result hstep with
  | unchanged heq => exact .inr (by simp [heq])
  | reset _ heq => exact .inl heq
  | discarded _ _ _ _ _ heq => exact .inr (by simp [heq])
  | written _ _ hidle => simp [hbusy] at hidle
  | completed _ _ heq => exact .inr (by simp [heq])

end Sys2Proof.Proofs.MemoryMap
end

section
/-! SUPPORT. The decoder and the encoder against each other: a transaction is its three fields, a decoded
transaction encodes to the word it was read from, and a command word is legal or illegal by the list of rule R125. -/

namespace Sys2Proof.Laws

/-! ## Transactions as words -/

/-- A transaction is the word of its three fields (rule R121). -/
theorem busWord_fields (w : BitVec 48) :
    busWord (w.getLsbD 47) (w.extractLsb' 32 15) (w.extractLsb' 0 32) = w := by
  apply BitVec.eq_of_getLsbD_eq
  intro j hj
  simp only [busWord, BitVec.getLsbD_append, BitVec.getLsbD_extractLsb', BitVec.getLsbD_ofBool]
  by_cases hd : j < 32
  · simp [hd]
  by_cases hi : j < 47
  · simp [hd, show j - 32 < 15 by omega, show 32 + (j - 32) = j by omega]
  · obtain rfl : j = 47 := by omega
    simp

/-- A mask that leaves `we` and `widx` clears `wdata` (rule R121). -/
theorem busWord_and_mask (we : Bool) (widx : BitVec 15) (d : Word) :
    busWord we widx d &&& 0xFFFF00000000#48 = busWord we widx 0#32 := by
  apply BitVec.eq_of_toNat_eq
  have hd := d.isLt
  calc (busWord we widx d &&& 0xFFFF00000000#48).toNat
      = (busWord we widx d).toNat / 2 ^ 32 * 2 ^ 32 := land_high 32 16 _ (busWord we widx d).isLt
    _ = (busWord we widx 0#32).toNat := by
      rw [busWord_toNat, busWord_toNat, BitVec.toNat_ofNat]
      omega

/-! ## Instructions as transactions -/

/-- Every instruction with a transaction of its own is well formed: only a command word can be no instruction. -/
theorem wellFormed_of_encode_bus {i : Instr} {w : BitVec 48} (h : encode i = .bus w) : i.wellFormed = true := by
  cases i with
  | illegal c => simp [encode] at h
  | _ => rfl

/-- The decoded read's transaction has the word index it was read from (rules R82, R122). -/
theorem encode_decodeRead (widx : BitVec 15) : encode (decodeRead widx) = .bus (busRead widx) := by
  fun_cases decodeRead widx
  all_goals
    refine congrArg (fun n => Encoded.bus (busRead n)) (BitVec.eq_of_toNat_eq ?_)
    simp only [append_toNat, BitVec.toNat_setWidth, BitVec.toNat_ofNat]
    omega

/-- The decoded write's transaction has the word index and the data it was read from (rules R82, R122). -/
theorem encode_decodeWrite (widx : BitVec 15) (d : Word) : encode (decodeWrite widx d) = .bus (busWrite widx d) := by
  fun_cases decodeWrite widx d
  all_goals
    refine congrArg (fun n => Encoded.bus (busWrite n d)) (BitVec.eq_of_toNat_eq ?_)
    simp only [append_toNat, BitVec.toNat_setWidth, BitVec.toNat_ofNat]
    omega

/-- Encoding the decoded transaction gives the word back, but for the `wdata` of a read (rules R121, R122). -/
theorem encode_decode_bus (w : BitVec 48) :
    encode (decode (.bus w)) = .bus (if w.getLsbD 47 then w else w &&& 0xFFFF00000000#48) := by
  rw [← busWord_fields w, decode_busWord, busWord_we]
  cases w.getLsbD 47 with
  | false => exact (encode_decodeRead _).trans (congrArg Encoded.bus (busWord_and_mask _ _ _).symm)
  | true => exact encode_decodeWrite _ _

/-! ## Command words -/

/-- A word that rule R125 does not list is the illegal command (rule R126). -/
theorem decodeCmd32_of_not_mem {c : Word} (h : c ∉ legalCommandWords) : decodeCmd32 c = .illegal c := by
  simp only [legalCommandWords, List.mem_cons, List.not_mem_nil, or_false, not_or] at h
  simp only [decodeCmd32, h, if_false]

/-- A word that rule R125 lists is a command (rule R125). -/
theorem decodeCmd32_of_mem : ∀ c ∈ legalCommandWords, decodeCmd32 c ≠ .illegal c := by
  simp [legalCommandWords, decodeCmd32]

theorem decodeCmd32_eq_illegal_iff (c : Word) : decodeCmd32 c = .illegal c ↔ c ∉ legalCommandWords :=
  ⟨fun h hmem => decodeCmd32_of_mem c hmem h, decodeCmd32_of_not_mem⟩

@[simp] theorem wellFormed_illegal (c : Word) : (Instr.illegal c).wellFormed = true ↔ c ∉ legalCommandWords := by
  simp [Instr.wellFormed]

theorem wellFormed_decodeCmd32 (c : Word) : (decodeCmd32 c).wellFormed = true := by
  by_cases h : c ∈ legalCommandWords
  · have hlegal : ∀ c ∈ legalCommandWords, (decodeCmd32 c).wellFormed = true := by
      simp [legalCommandWords, decodeCmd32, Instr.wellFormed]
    exact hlegal c h
  · rw [decodeCmd32_of_not_mem h]
    exact (wellFormed_illegal c).mpr h

theorem encode_decodeCmd32 (c : Word) : encode (decodeCmd32 c) = .cmd c := by
  by_cases h : c ∈ legalCommandWords
  · have hlegal : ∀ c ∈ legalCommandWords, encode (decodeCmd32 c) = .cmd c := by
      simp [legalCommandWords, decodeCmd32, encode]
    exact hlegal c h
  · rw [decodeCmd32_of_not_mem h, encode]

/-! ## Opcode-table rows -/

open MatchesOpcodeRow in
/-- Every instruction's word matches its opcode-table row. -/
theorem matchesOpcodeRow : ∀ i : Instr, MatchesOpcodeRow.Statement i
  | .rdId => rdId | .rdCmd => rdCmd | .rdStatus => rdStatus | .rdInten => rdInten | .rdKeyPush => rdKeyPush
  | .rdKeyCnt => rdKeyCnt | .rdAddrPush => rdAddrPush | .rdAddrCnt => rdAddrCnt | .rdFcnt => rdFcnt | .rdDir => rdDir
  | .rdPlen => rdPlen | .rdRlen => rdRlen | .rdBufsz => rdBufsz | .rdRsv000D => rdRsv000D
  | .rdRsv000E o => rdRsv000E o | .rdRsv0010 o => rdRsv0010 o | .rdRsv0020 o => rdRsv0020 o
  | .rdRsv0040 o => rdRsv0040 o | .rdRsv0080 o => rdRsv0080 o | .rdRsv0100 o => rdRsv0100 o
  | .rdRsv0200 o => rdRsv0200 o | .rdRsv0400 o => rdRsv0400 o | .rdRsv0800 o => rdRsv0800 o
  | .rdRsv1000 o => rdRsv1000 o | .rdIn k => rdIn k | .rdOut k => rdOut k | .rdRsv6000 o => rdRsv6000 o
  | .wrId d => wrId d | .wrCmd c => wrCmd c | .wrStatus d => wrStatus d | .wrInten d => wrInten d
  | .wrKeyPush d => wrKeyPush d | .wrKeyCnt d => wrKeyCnt d | .wrAddrPush d => wrAddrPush d
  | .wrAddrCnt d => wrAddrCnt d | .wrFcnt d => wrFcnt d | .wrDir d => wrDir d | .wrPlen d => wrPlen d
  | .wrRlen d => wrRlen d | .wrBufsz d => wrBufsz d | .wrRsv000D d => wrRsv000D d | .wrRsv000E o d => wrRsv000E o d
  | .wrRsv0010 o d => wrRsv0010 o d | .wrRsv0020 o d => wrRsv0020 o d | .wrRsv0040 o d => wrRsv0040 o d
  | .wrRsv0080 o d => wrRsv0080 o d | .wrRsv0100 o d => wrRsv0100 o d | .wrRsv0200 o d => wrRsv0200 o d
  | .wrRsv0400 o d => wrRsv0400 o d | .wrRsv0800 o d => wrRsv0800 o d | .wrRsv1000 o d => wrRsv1000 o d
  | .wrIn k d => wrIn k d | .wrOut k d => wrOut k d | .wrRsv6000 o d => wrRsv6000 o d | .nop => nop | .crypt => crypt
  | .ecb => ecb | .ksgen => ksgen | .clrkey => clrkey | .clraddr => clraddr | .srst => srst | .illegal c => illegal c

/-- The row an instruction stands for has the length and the bits of the instruction's word. -/
theorem opcodeRow_matches_of_encode {i : Instr} {e : Encoded} (h : encode i = e) :
    (opcodeRow i).nbits = e.nbits ∧ e.bits &&& (opcodeRow i).mask = (opcodeRow i).word := by
  obtain ⟨hlen, hmask⟩ := matchesOpcodeRow i
  rw [h] at hlen hmask
  exact ⟨hlen.symm, hmask⟩

/-- The row of a read leaves `wdata` open (rule R122). -/
theorem opcodeRow_decodeRead_mask (widx : BitVec 15) :
    0xFFFF00000000 &&& (opcodeRow (decodeRead widx)).mask = (opcodeRow (decodeRead widx)).mask := by
  fun_cases decodeRead widx
  all_goals
    rw [opcodeRow]
    decide

/-- The row of a read holds for its word with any `wdata` (rule R122). -/
theorem opcodeRow_decodeRead_matches (widx : BitVec 15) (d : Word) :
    (busWord false widx d).toNat &&& (opcodeRow (decodeRead widx)).mask = (opcodeRow (decodeRead widx)).word := by
  have hclear : (busWord false widx d).toNat &&& 0xFFFF00000000 = (busRead widx).toNat :=
    congrArg BitVec.toNat (busWord_and_mask false widx d)
  rw [← opcodeRow_decodeRead_mask, ← Nat.land_assoc, hclear]
  exact (opcodeRow_matches_of_encode (encode_decodeRead widx)).2

/-! ## Numbers of other lengths -/

/-- A number with a bit set above its length is a word of neither format (rules R120, R127). -/
theorem encodedOfBits_tooWide {nbits w : Nat} (hlen : nbits = 48 ∨ nbits = 32) (hw : 2 ^ nbits ≤ w) :
    encodedOfBits nbits w = .error .wordTooWide := by
  rcases hlen with rfl | rfl
  · rw [encodedOfBits, if_pos rfl, if_neg (Nat.not_lt.mpr hw)]
  · rw [encodedOfBits, if_neg (by decide), if_pos rfl, if_neg (Nat.not_lt.mpr hw)]

theorem decodeTableWord_of_word {nbits w : Nat} {e : Encoded} (h : encodedOfBits nbits w = .ok e) :
    decodeTableWord nbits w = some (decode e) := by
  rw [decodeTableWord, decodeBits, h]

theorem decodeTableWord_of_error {nbits w : Nat} {r : DecodeError} (h : encodedOfBits nbits w = .error r) :
    decodeTableWord nbits w = none := by
  rw [decodeTableWord, decodeBits, h]

end Sys2Proof.Laws
end

section
/-! PROOFS. The statements of the family 30_encoding.md. -/

namespace Sys2Proof.Proofs.Encoding
open Sys2Proof.Laws

/-- Settles O1: a word of a range is the range's leading bits followed by the operand, so of the address map's bounds
just its own holds, and the operand is the index's low part; a register's index is a literal; a well-formed illegal
command is none of the seven words. -/
theorem decodeInvertsEncode : Obligations.DecodeInvertsEncode := by
  intro i hwf
  cases i with
  | rdRsv000E o | rdRsv0010 o | rdRsv0020 o | rdRsv0040 o | rdRsv0080 o | rdRsv0100 o | rdRsv0200 o | rdRsv0400 o
  | rdRsv0800 o | rdRsv1000 o | rdIn o | rdOut o | rdRsv6000 o =>
    have ho := o.isLt
    rw [encode, busRead, decode_busWord, if_neg Bool.false_ne_true]
    simp (disch := omega) only [decodeRead, append_toNat, BitVec.toNat_ofNat, if_neg, if_pos, setWidth_append]
  | wrRsv000E o d | wrRsv0010 o d | wrRsv0020 o d | wrRsv0040 o d | wrRsv0080 o d | wrRsv0100 o d | wrRsv0200 o d
  | wrRsv0400 o d | wrRsv0800 o d | wrRsv1000 o d | wrIn o d | wrOut o d | wrRsv6000 o d =>
    have ho := o.isLt
    rw [encode, busWrite, decode_busWord, if_pos rfl]
    simp (disch := omega) only [decodeWrite, append_toNat, BitVec.toNat_ofNat, if_neg, if_pos, setWidth_append]
  | wrId d | wrCmd d | wrStatus d | wrInten d | wrKeyPush d | wrKeyCnt d | wrAddrPush d | wrAddrCnt d | wrFcnt d
  | wrDir d | wrPlen d | wrRlen d | wrBufsz d | wrRsv000D d => exact decode_busWord true _ d
  | illegal c => exact decodeCmd32_of_not_mem ((wellFormed_illegal c).mp hwf)
  | _ => rfl

/-- Settles O2: by the fields of a transaction, and by the list of rule R125 for a command word. -/
theorem encodeInvertsDecode : Obligations.EncodeInvertsDecode := by
  refine ⟨fun w => ?_, fun c => ⟨wellFormed_decodeCmd32 c, encode_decodeCmd32 c⟩⟩
  have hencode := encode_decode_bus w
  exact ⟨wellFormed_of_encode_bus hencode, hencode⟩

/-- Settles O3: each instruction's own word matches its row, and the word it was decoded from differs from that in the
`wdata` of a read at most, which the row's mask leaves open. -/
theorem decodedRowMatchesTheWord : Obligations.DecodedRowMatchesTheWord := by
  intro e
  cases e with
  | cmd c => exact opcodeRow_matches_of_encode (encode_decodeCmd32 c)
  | bus w =>
    rw [← busWord_fields w, decode_busWord]
    cases w.getLsbD 47 with
    | true => exact opcodeRow_matches_of_encode (encode_decodeWrite _ _)
    | false => exact ⟨(opcodeRow_matches_of_encode (encode_decodeRead _)).1, opcodeRow_decodeRead_matches _ _⟩

/-- Settles O4: the seven words have `RSV = 0`. -/
theorem onlySevenWordsAreCommands : Obligations.OnlySevenWordsAreCommands := by
  refine fun c => ⟨(decodeCmd32_eq_illegal_iff c).symm, fun hrsv => decodeCmd32_of_not_mem fun hmem => hrsv ?_⟩
  have hlegal : ∀ c ∈ legalCommandWords, c.extractLsb' 8 24 = 0#24 := by simp [legalCommandWords]
  exact hlegal c hmem

/-- Settles O5, by evaluating the encoder and the decoder on the words of rules R125 and R130. -/
theorem encodingExamplesDecode : Obligations.EncodingExamplesDecode := by
  unfold Obligations.EncodingExamplesDecode
  decide

/-- Settles O60: what the decoder reads from a number is what `encodedOfBits` makes of it. -/
theorem onlyWordsOfTheTwoLengthsDecode : Obligations.OnlyWordsOfTheTwoLengthsDecode :=
  ⟨fun w => decodeTableWord_of_word (encodedOfBits_bus w), fun c => decodeTableWord_of_word (encodedOfBits_cmd c),
    fun _ w h48 h32 => decodeTableWord_of_error (encodedOfBits_other w h48 h32),
    fun _ _ hlen hw => decodeTableWord_of_error (encodedOfBits_tooWide hlen hw)⟩

end Sys2Proof.Proofs.Encoding
end

section
/-! SUPPORT. The answer of a read, a write while busy, a write without effect, and the effects of the writes that store
an operand, each said once. -/

namespace Sys2Proof.Machine

/-! ## Reads and writes at the open port -/

/-- With the reset input released a read answers its word and changes nothing else (rules R91, R150). -/
theorem exec_answers {i : Instr} {s : State} {d : Word} (hopen : s.port.rst = false)
    (hread : exec i s = .next (hostRead s d)) : exec i s = .next (s.answered d) := by
  rw [hread, hostRead_open s d hopen]

/-- While busy every write but the soft reset is discarded and sets `ACCERR` (rules R150, R340). -/
theorem exec_write_busy {i : Instr} {s : State} (hopen : s.port.rst = false) (hbusy : s.arch.busy = true)
    (hwrite : i.isRead = false) (hsoft : i.isSoftReset = false) :
    exec i s = .next (s.withArch { s.arch with accerr := true }) := by
  rw [exec_write i s hwrite hsoft, hostWrite_busy s _ hopen hbusy, setAccessError]

/-- While idle a write of a read-only or reserved word leaves the state as it is (rule R172). -/
theorem exec_ignoredWrite_idle {i : Instr} {s : State} (hidle : s.acceptsWrites)
    (hignored : exec i s = .next (ignoredWrite s)) : exec i s = .next s := by
  rw [hignored, ignoredWrite, hostWrite_idle s _ hidle, State.withArch_self]

/-! ## The OUT window and the flags -/

/-- The word an OUT read returns, with rule R163's two conditions in one test. -/
theorem outWindowWord_eq (s : State) (k : Nat) :
    outWindowWord s k =
      if s.cfg.bufBytes ≤ 4 * k ∨ s.arch.busy = true then 0x00000000#32 else s.arch.outBuf.readWord k := by
  simp [outWindowWord]

/-- Each flag that a bit of the written word selects is cleared, and no other changes (rule R156). -/
theorem clearFlags_eq (d : Word) (a : Arch) :
    clearFlags d a = { a with
      done := if d.getLsbD 1 then false else a.done
      err := if d.getLsbD 2 then false else a.err
      errcode := if d.getLsbD 2 then .none else a.errcode
      accerr := if d.getLsbD 3 then false else a.accerr } := by
  have hclear (flag bit : Bool) : (flag && !bit) = if bit then false else flag := by cases bit <;> simp
  simp only [clearFlags, hclear]

/-! ## The push registers -/

theorem pushKey_of_room {a : Arch} (b : Byte) (h : a.keyCnt.val < 16) :
    pushKey b a = { a with key := a.key.set a.keyCnt.val b, keyCnt := ⟨a.keyCnt.val + 1, by omega⟩ } :=
  dif_pos h

theorem pushKey_of_full {a : Arch} (b : Byte) (h : 16 ≤ a.keyCnt.val) : pushKey b a = { a with keyCnt := 17 } :=
  dif_neg (Nat.not_lt.mpr h)

theorem pushAddr_of_room {a : Arch} (b : Byte) (h : a.addrCnt.val < 4) :
    pushAddr b a = { a with addr := a.addr.set a.addrCnt.val b, addrCnt := ⟨a.addrCnt.val + 1, by omega⟩ } :=
  dif_pos h

theorem pushAddr_of_full {a : Arch} (b : Byte) (h : 4 ≤ a.addrCnt.val) : pushAddr b a = { a with addrCnt := 5 } :=
  dif_neg (Nat.not_lt.mpr h)

/-! ## The IN window -/

theorem writeInWord_inside {cfg : Config} {k : Nat} (d : Word) (a : Arch) (h : 4 * k < cfg.bufBytes) :
    writeInWord cfg k d a = { a with inBuf := a.inBuf.writeWord k d } := if_pos h

theorem writeInWord_beyond {cfg : Config} {k : Nat} (d : Word) (a : Arch) (h : cfg.bufBytes ≤ 4 * k) :
    writeInWord cfg k d a = a := if_neg (Nat.not_lt.mpr h)

/-- Byte `j` of a written buffer word is lane `j` of the data (rules R83, R171). -/
theorem Memory.read_writeWord_lane {m : Memory} (h : m.wf = true) (k : Nat) (d : Word) {j : Nat} (hj : j < 4) :
    (m.writeWord k d).read (4 * k + j) = laneByte d j := by
  rw [Memory.writeWord, Memory.read_writeBytes _ _ _ _ h, if_pos (Nat.le_add_right _ _), Nat.add_sub_cancel_left]
  interval_cases j <;> rfl

/-- The bytes outside a written buffer word stay as they were (rule R171). -/
theorem Memory.read_writeWord_outside {m : Memory} (h : m.wf = true) {k n : Nat} (d : Word)
    (hn : n < 4 * k ∨ 4 * k + 4 ≤ n) : (m.writeWord k d).read n = m.read n := by
  rw [Memory.writeWord, Memory.read_writeBytes _ _ _ _ h]
  rcases hn with hbelow | habove
  · rw [if_neg (by omega)]
  · rw [if_pos (by omega)]
    exact List.getD_eq_default _ _ (Nat.le_sub_of_add_le' habove)

/-! ## Command words -/

theorem decodeCmd32_isRead (c : Word) : (decodeCmd32 c).isRead = false := by
  fun_cases decodeCmd32 c <;> rfl

theorem decodeCmd32_isSoftReset {c : Word} (h : c ≠ 0x0000000F#32) : (decodeCmd32 c).isSoftReset = false := by
  fun_cases decodeCmd32 c
  case case7 => contradiction
  all_goals rfl

/-- The issue of a word is the effect of the command it decodes to (rules R174, R260). -/
theorem issue_eq_writeEffect (cfg : Config) {c : Word} (h : c ≠ 0x0000000F#32) :
    issue cfg c = writeEffect cfg (decodeCmd32 c) := by
  funext a
  unfold issue decodeCmd32
  split_ifs <;> rfl

end Sys2Proof.Machine
end

section
/-! PROOFS. The statements of the family 40_operand_access.md. -/

namespace Sys2Proof.Proofs.OperandAccess
open Sys2Proof.Machine

/-- Settles O27: with room the pushed byte goes where the count points; with 16 bytes held no index of the key is the
count. -/
theorem keyPushAppendsOneByte : Obligations.KeyPushAppendsOneByte := by
  intro s d hidle
  have hexec := exec_write_idle (i := .wrKeyPush d) hidle rfl rfl
  rcases Nat.lt_or_ge s.arch.keyCnt.val 16 with hroom | hfull
  · rw [writeEffect, pushKey_of_room _ hroom] at hexec
    exact ⟨_, hexec, rfl, fun _ => rfl, fun hfull => absurd hroom (Nat.not_lt.mpr hfull),
      fun j hj => by simp [Vector.getElem_set, pushByte, eq_comm]⟩
  · rw [writeEffect, pushKey_of_full _ hfull] at hexec
    exact ⟨_, hexec, rfl, fun hroom => absurd hroom (Nat.not_lt.mpr hfull), fun _ => rfl,
      fun j hj => (if_neg (Nat.ne_of_lt (Nat.lt_of_lt_of_le hj hfull))).symm⟩

/-- Settles O28: as for the key, with room for four bytes. -/
theorem addressPushAppendsOneByte : Obligations.AddressPushAppendsOneByte := by
  intro s d hidle
  have hexec := exec_write_idle (i := .wrAddrPush d) hidle rfl rfl
  rcases Nat.lt_or_ge s.arch.addrCnt.val 4 with hroom | hfull
  · rw [writeEffect, pushAddr_of_room _ hroom] at hexec
    exact ⟨_, hexec, rfl, fun _ => rfl, fun hfull => absurd hroom (Nat.not_lt.mpr hfull),
      fun j hj => by simp [Vector.getElem_set, pushByte, eq_comm]⟩
  · rw [writeEffect, pushAddr_of_full _ hfull] at hexec
    exact ⟨_, hexec, rfl, fun hroom => absurd hroom (Nat.not_lt.mpr hfull), fun _ => rfl,
      fun j hj => (if_neg (Nat.ne_of_lt (Nat.lt_of_lt_of_le hj hfull))).symm⟩

/-- Settles O29: inside `BUF_BYTES` the word's four bytes are the lanes and the others stay; beyond it nothing is
written. -/
theorem inWriteStoresFourLanes : Obligations.InWriteStoresFourLanes := by
  intro s k d hidle hwf
  have hexec := exec_write_idle (i := .wrIn k d) hidle rfl rfl
  rcases Nat.lt_or_ge (4 * k.toNat) s.cfg.bufBytes with hin | hout
  · rw [writeEffect, writeInWord_inside _ _ hin] at hexec
    exact ⟨_, hexec, rfl, fun _ => ⟨fun j hj => Memory.read_writeWord_lane hwf _ d hj,
      fun n hn => Memory.read_writeWord_outside hwf d hn⟩, fun hout => absurd hin (Nat.not_lt.mpr hout)⟩
  · rw [writeEffect, writeInWord_beyond _ _ hout] at hexec
    exact ⟨_, hexec, rfl, fun hin => absurd hin (Nat.not_lt.mpr hout), fun _ => rfl⟩

/-- Settles O31: the SRST word is the soft reset in both forms; every other word is a write whose effect is its
command's. -/
theorem cmdWriteRunsTheCommandWord : Obligations.CmdWriteRunsTheCommandWord := by
  intro c s
  by_cases hsrst : c = 0x0000000F#32
  · subst hsrst
    exact ⟨_, exec_softReset _ s rfl, exec_softReset _ s rfl, hostSoftReset_cfg s, hostSoftReset_port s⟩
  · have hword := exec_write (.wrCmd c) s rfl (beq_false_of_ne hsrst)
    rw [writeEffect, issue_eq_writeEffect _ hsrst] at hword
    exact ⟨_, hword, exec_write _ s (decodeCmd32_isRead c) (decodeCmd32_isSoftReset hsrst), hostWrite_cfg s _,
      hostWrite_port s _⟩

/-- Settles O17: each read answers the word of its own definition; `IE` zero-extended is 1 or 0. -/
theorem registerReadsReturnTheirValue : Obligations.RegisterReadsReturnTheirValue := by
  intro s hopen
  have hie : (BitVec.ofBool s.arch.ie).setWidth 32 = if s.arch.ie then 1#32 else 0#32 := by
    cases s.arch.ie <;> rfl
  rw [← hie]
  and_intros
  all_goals exact exec_answers hopen rfl

/-- Settles O18: each of the twelve reads answers 0, whatever its operand. -/
theorem reservedWordsReadZero : Obligations.ReservedWordsReadZero := by
  intro s hopen
  and_intros
  all_goals
    intros
    exact exec_answers hopen rfl

/-- Settles O19: the word read is `inWindowWord`, which does not look at `BUSY`. -/
theorem inWindowReadsItsBytes : Obligations.InWindowReadsItsBytes :=
  fun _ _ hopen => exec_answers hopen rfl

/-- Settles O20: the word read is `outWindowWord`. -/
theorem outWindowReadsItsBytesOnlyWhileIdle : Obligations.OutWindowReadsItsBytesOnlyWhileIdle := by
  intro s k hopen
  have hread : exec (.rdOut k) s = .next (s.answered (outWindowWord s k.toNat)) := exec_answers hopen rfl
  rw [hread, outWindowWord_eq]
  rfl

/-- Settles O23: idle, each of the eighteen is `ignoredWrite`; busy, it is a write like every other. -/
theorem ignoredWritesChangeNothing : Obligations.IgnoredWritesChangeNothing := by
  refine ⟨fun s hidle => ?_, fun s hopen hbusy => ?_⟩
  · and_intros
    all_goals
      intros
      exact exec_ignoredWrite_idle hidle rfl
  · and_intros
    all_goals
      intros
      exact exec_write_busy hopen hbusy rfl rfl

/-- Settles O24: while busy it is a write like every other; while idle its effect is `clearFlags`. -/
theorem statusWriteClearsSelectedFlags : Obligations.StatusWriteClearsSelectedFlags := by
  refine ⟨fun s d hopen hbusy => exec_write_busy hopen hbusy rfl rfl, fun s d hidle => ?_⟩
  rw [exec_write_idle hidle rfl rfl, writeEffect, clearFlags_eq]

/-- Settles O25: the effect of each of the four writes is its field's update. -/
theorem operandWritesStoreTheirField : Obligations.OperandWritesStoreTheirField := by
  intro s d hidle
  and_intros
  all_goals exact exec_write_idle hidle rfl rfl

end Sys2Proof.Proofs.OperandAccess
end

section
/-! SUPPORT. The keying block determines its address, its counter, its direction and its index mod 256. -/

namespace Sys2Proof.Machine

/-! ## The index byte -/

/-- The index byte is the index mod 256 (rule R182). -/
theorem indexByte_toNat (i : Nat) : (indexByte i).toNat = i % 256 := by
  simp [indexByte]

/-- The index byte wraps silently after 256 blocks (rule R182). -/
theorem indexByte_add_period (i : Nat) : indexByte (i + 256) = indexByte i := by
  rw [indexByte, indexByte, Nat.add_mod_right]

/-! ## The direction byte -/

/-- Byte 5 is `0x00` for uplink and `0x01` for downlink (rule R186). -/
theorem setWidth_dir (dir : BitVec 1) : dir.setWidth 8 = if dir = 0#1 then 0x00#8 else 0x01#8 := by
  revert dir
  decide

/-! ## The fields of a keying block -/

/-- The four counter bytes, least significant first, are the counter (rule R184). -/
theorem eq_of_fcntByte_eq {f g : Word} (h0 : fcntByte f 0 = fcntByte g 0) (h1 : fcntByte f 1 = fcntByte g 1)
    (h2 : fcntByte f 2 = fcntByte g 2) (h3 : fcntByte f 3 = fcntByte g 3) : f = g :=
  calc f = wordOfLanes (fcntByte f 0) (fcntByte f 1) (fcntByte f 2) (fcntByte f 3) := (wordOfLanes_laneByte f).symm
    _ = wordOfLanes (fcntByte g 0) (fcntByte g 1) (fcntByte g 2) (fcntByte g 3) := by rw [h0, h1, h2, h3]
    _ = g := wordOfLanes_laneByte g

/-- Equal keying blocks have equal fields; of the index the block holds only its value mod 256 (rules R183, R188). -/
theorem keyingBlock_fields_eq {a b : Vector Byte 4} {f g : Word} {d e : BitVec 1} {i j : Nat}
    (h : keyingBlock a f d i = keyingBlock b g e j) : a = b ∧ f = g ∧ d = e ∧ i % 256 = j % 256 := by
  have byteEq (n : Nat) (hn : n < 16) : (keyingBlock a f d i)[n] = (keyingBlock b g e j)[n] := by rw [h]
  have hdir : d.setWidth 8 = e.setWidth 8 := byteEq 5 (by decide)
  have hindex : indexByte i = indexByte j := byteEq 15 (by decide)
  refine ⟨Vector.ext fun k hk => ?_, ?_, ?_, ?_⟩
  · -- The address is reversed: its byte `k` is byte `9 - k` of the block (rule R185).
    match k, hk with
    | 0, _ => exact byteEq 9 (by decide)
    | 1, _ => exact byteEq 8 (by decide)
    | 2, _ => exact byteEq 7 (by decide)
    | 3, _ => exact byteEq 6 (by decide)
  · exact eq_of_fcntByte_eq (byteEq 10 (by decide)) (byteEq 11 (by decide)) (byteEq 12 (by decide))
      (byteEq 13 (by decide))
  · simpa using congrArg (BitVec.setWidth 1) hdir
  · rw [← indexByte_toNat, hindex, indexByte_toNat]

end Sys2Proof.Machine
end

section
/-! PROOFS. The statements of the family 41_keying_block.md. -/

namespace Sys2Proof.Proofs.KeyingBlock
open Sys2Proof.Machine

/-- Settles O39: equal blocks agree on the index mod 256, and no two indices from 1 to 256 agree mod 256; the index
enters the block only by its byte, which has the period 256. -/
theorem keyingBlocksAreDistinctWithinThePeriod : Obligations.KeyingBlocksAreDistinctWithinThePeriod := by
  refine ⟨fun a b f g d e i j hi hi' hj hj' h => ?_, fun a f d i => ?_⟩
  · obtain ⟨haddr, hfcnt, hdir, hindex⟩ := keyingBlock_fields_eq h
    exact ⟨haddr, hfcnt, hdir, by omega⟩
  · simp only [keyingBlock, indexByte_add_period]

/-- Settles O38: every byte is an entry of the block's list; the direction byte and the index byte have their values
from their own lemmas. -/
theorem keyingBlockLayout : Obligations.KeyingBlockLayout := by
  intro addr fcnt dir i A
  have hdir : A[5] = if dir = 0#1 then 0x00#8 else 0x01#8 := setWidth_dir dir
  have hindex : A[15].toNat = i % 256 := indexByte_toNat i
  exact ⟨rfl, rfl, rfl, rfl, rfl, hdir, rfl, rfl, rfl, rfl, rfl, rfl, rfl, rfl, rfl, hindex⟩

end Sys2Proof.Proofs.KeyingBlock
end

section
/-! SUPPORT. Every step of the cipher and its rounds under a fixed key are bijections; the S-box against the field inverse. -/

namespace Sys2Proof.Machine

/-! ## The S-box -/

/-- The table reaches every byte (rule R206): it sends no two bytes to one, and there are finitely many. -/
theorem sbox_bijective : Function.Bijective sbox :=
  Finite.injective_iff_bijective.mp sbox_injective

/-- The S-box undone from the other side (rule R206). -/
theorem sbox_inverseSbox (y : Byte) : sbox (inverseSbox y) = y :=
  Function.LeftInverse.rightInverse_of_surjective inverseSbox_sbox sbox_bijective.surjective y

/-- `SubWord` undone (rule R208). -/
def inverseSubWord (y : AesWord) : AesWord :=
  ⟨inverseSbox y.b0, inverseSbox y.b1, inverseSbox y.b2, inverseSbox y.b3⟩

@[simp] theorem inverseSubWord_subWord (x : AesWord) : inverseSubWord (subWord x) = x := by
  simp [inverseSubWord, subWord, inverseSbox_sbox]

@[simp] theorem subWord_inverseSubWord (y : AesWord) : subWord (inverseSubWord y) = y := by
  simp [inverseSubWord, subWord, sbox_inverseSbox]

/-! ## The steps of a round -/

/-- A function whose fourth power is the identity is undone by its third. -/
theorem bijective_of_four {α : Type} {f : α → α} (h : ∀ x, f (f (f (f x))) = x) : Function.Bijective f :=
  Function.bijective_iff_has_inverse.mpr ⟨fun x => f (f (f x)), h, h⟩

/-- `SubBytes` undone, column by column (rule R212). -/
def inverseSubBytes (s : AesState) : AesState :=
  ⟨inverseSubWord s.c0, inverseSubWord s.c1, inverseSubWord s.c2, inverseSubWord s.c3⟩

theorem subBytes_bijective : Function.Bijective subBytes :=
  Function.bijective_iff_has_inverse.mpr ⟨inverseSubBytes, fun s => by simp [inverseSubBytes, subBytes],
    fun s => by simp [inverseSubBytes, subBytes]⟩

theorem shiftRows_bijective : Function.Bijective shiftRows := bijective_of_four shiftRows_four

theorem mixColumns_bijective : Function.Bijective mixColumns :=
  bijective_of_four fun s => by simp only [mixColumns, mixColumn_four]

theorem addRoundKey_bijective (k : AesState) : Function.Bijective (addRoundKey · k) :=
  Function.Involutive.bijective fun s => addRoundKey_addRoundKey s k

theorem loadBlock_bijective : Function.Bijective loadBlock :=
  Function.bijective_iff_has_inverse.mpr ⟨storeBlock, storeBlock_loadBlock, loadBlock_storeBlock⟩

theorem storeBlock_bijective : Function.Bijective storeBlock :=
  Function.bijective_iff_has_inverse.mpr ⟨loadBlock, loadBlock_storeBlock, storeBlock_loadBlock⟩

/-! ## The cipher -/

/-- The state after `r` rounds determines the block, and every state is reached (rule R220). -/
theorem aesRounds_bijective (key : Block) : ∀ r, Function.Bijective (aesRounds key · r)
  | 0 => (addRoundKey_bijective _).comp loadBlock_bijective
  | r + 1 => (addRoundKey_bijective _).comp <| mixColumns_bijective.comp <| shiftRows_bijective.comp <|
      subBytes_bijective.comp (aesRounds_bijective key r)

/-! ## Facts about every byte -/

/-- A property of the 256 bytes in order is one of every byte. -/
theorem forall_byte {p : Byte → Prop} (h : ∀ i : Fin 256, p (BitVec.ofFin i)) : ∀ x, p x :=
  fun x => h x.toFin

/-- The table is the affine map of the power 254 (rules R204, R205, R206). -/
theorem sbox_eq_affine_gfInv : ∀ x : Byte, sbox x = affine (gfInv x) :=
  forall_byte (by decide +kernel)

/-- The power 254 of 0 is 0 (rule R204). -/
@[simp] theorem gfInv_zero : gfInv 0x00#8 = 0x00#8 := by decide +kernel

/-- The power 254 of any other byte is its inverse (rule R204). -/
theorem gfMul_gfInv : ∀ x : Byte, x ≠ 0x00#8 → gfMul x (gfInv x) = 0x01#8 :=
  forall_byte (by decide +kernel)

end Sys2Proof.Machine
end

section
/-! PROOFS. The statements of the family 42_aes128.md. -/

namespace Sys2Proof.Proofs.Aes128
open Sys2Proof.Machine

/-- Settles O42: the cipher is nine rounds and the last one's steps, each a bijection. -/
theorem cipherIsAPermutation : Obligations.CipherIsAPermutation := fun key =>
  storeBlock_bijective.comp <| (addRoundKey_bijective _).comp <| shiftRows_bijective.comp <|
    subBytes_bijective.comp (aesRounds_bijective key 9)

/-- Settles O43: the table against the affine map, and the power 254 against the inverse, at every byte. -/
theorem sboxIsAffineOfTheInverse : Obligations.SboxIsAffineOfTheInverse :=
  ⟨sbox_eq_affine_gfInv, gfInv_zero, gfMul_gfInv⟩

/-- Settles O44: the cipher run on the two examples. -/
theorem cipherGivesThePublishedVectors : Obligations.CipherGivesThePublishedVectors :=
  ⟨by decide +kernel, by decide +kernel⟩

end Sys2Proof.Proofs.Aes128
end

section
/-! SUPPORT. The keystream and the result of CRYPT byte by byte, and the whole state the engine's step leaves. -/

namespace Sys2Proof.Machine

/-! ## The keystream byte by byte -/

/-- Byte `n` of the blocks from block 1 on: byte `n mod 16` of block `1 + n div 16` (rules R241, R243). -/
def keystreamByte (a : Arch) (n : Nat) : Byte := (keystreamBlock a (1 + n / 16))[n % 16]'(Nat.mod_lt n (by decide))

/-- The cut to `len` bytes leaves every byte before it in its place (rules R241, R243). -/
theorem getElem?_keystream (a : Arch) {len n : Nat} (hn : n < len) :
    (keystream a len)[n]? = some (keystreamByte a n) := by
  have hblocks : n < 16 * blockCount len := by unfold blockCount; omega
  rw [keystream, List.getElem?_take_of_lt hn, getElem?_keystreamBlocks a _ 1 n hblocks, keystreamByte]

/-- The keystream's blocks have the period 256, that of the index byte (rule R248). -/
theorem keystreamBlock_add_period (a : Arch) (i : Nat) : keystreamBlock a (i + 256) = keystreamBlock a i := by
  simp only [keystreamBlock, keyingBlock, indexByte_add_period]

/-- The keystream has the period 4096 bytes, 256 blocks of 16 (rule R248). -/
theorem keystreamByte_add_period (a : Arch) (n : Nat) : keystreamByte a (n + 4096) = keystreamByte a n := by
  have hblock : 1 + (n + 4096) / 16 = 1 + n / 16 + 256 := by omega
  have hbyte : (n + 4096) % 16 = n % 16 := by omega
  simp only [keystreamByte, hblock, hbyte, keystreamBlock_add_period]

/-- A keystream byte is a function of the key and the keying block's arguments (rule R240). -/
theorem keystreamByte_congr {a b : Arch} (hkey : b.key = a.key) (haddr : b.addr = a.addr) (hfcnt : b.fcnt = a.fcnt)
    (hdir : b.dir = a.dir) (n : Nat) : keystreamByte b n = keystreamByte a n := by
  simp only [keystreamByte, keystreamBlock, hkey, haddr, hfcnt, hdir]

/-! ## The result of the payload commands -/

/-- Byte `n` of CRYPT's result: payload byte `n` with keystream byte `n` (rule R242). -/
theorem getElem?_resultBytes_crypt (a : Arch) {n : Nat} (hn : n < a.plen.toNat) :
    (resultBytes a .crypt)[n]? = some (a.inBuf.read n ^^^ keystreamByte a n) := by
  have hpayload : (a.inBuf.readBytes 0 a.plen.toNat)[n]? = some (a.inBuf.read n) := by
    rw [Memory.getElem?_readBytes _ _ 0 n hn, Nat.zero_add]
  simp only [resultBytes, xorBytes, List.getElem?_zipWith, hpayload, getElem?_keystream a hn]

/-- CRYPT and KSGEN report the payload's length (rules R52, R261). -/
theorem resultLength_of_ne_ecb (a : Arch) {c : LongCmd} (h : c ≠ .ecb) : resultLength a c = a.plen := by
  cases c with
  | crypt => rfl
  | ksgen => rfl
  | ecb => exact absurd rfl h

/-! ## What the engine's step leaves, whole and beyond the result -/

/-- The engine's step changes the status, the result's length and OUT, and no other element (rule R261). -/
theorem engineTurn_frame {s : State} {c : LongCmd} (hbusy : s.arch.busy = true) (hc : s.arch.pending = some c) :
    engineTurn s = s.withArch { s.arch with
      pending := none, busy := false, done := true, rlen := resultLength s.arch c,
      outBuf := (engineTurn s).arch.outBuf } := by
  simp [engineTurn_busy s hbusy, complete, hc, writeResult]

/-- Bytes of OUT beyond the result keep their value (rule R263). -/
theorem engineTurn_outBuf_read_beyond {s : State} {c : LongCmd} (hbusy : s.arch.busy = true)
    (hc : s.arch.pending = some c) (hwf : s.arch.outBuf.wf = true) {n : Nat}
    (hn : (resultLength s.arch c).toNat ≤ n) : (engineTurn s).arch.outBuf.read n = s.arch.outBuf.read n := by
  rw [engineTurn_outBuf_read hbusy hc hwf, List.getD_eq_default _ _ (by rwa [resultBytes_length])]

/-- Every byte CRYPT writes: payload byte `n` with keystream byte `n` (rule R242). -/
theorem engineTurn_crypt_read {s : State} (hbusy : s.arch.busy = true) (hc : s.arch.pending = some .crypt)
    (hwf : s.arch.outBuf.wf = true) {n : Nat} (hn : n < s.arch.plen.toNat) :
    (engineTurn s).arch.outBuf.read n = s.arch.inBuf.read n ^^^ keystreamByte s.arch n := by
  rw [engineTurn_outBuf_read hbusy hc hwf, List.getD_eq_getElem?_getD, getElem?_resultBytes_crypt _ hn,
    Option.getD_some]

/-- A result of no bytes leaves OUT as it was (rule R263). -/
theorem engineTurn_outBuf_of_empty_result {s : State} {c : LongCmd} (hbusy : s.arch.busy = true)
    (hc : s.arch.pending = some c) (hlen : resultLength s.arch c = 0#16) :
    (engineTurn s).arch.outBuf = s.arch.outBuf := by
  have hnil : resultBytes s.arch c = [] := List.eq_nil_of_length_eq_zero (by rw [resultBytes_length, hlen]; rfl)
  rw [engineTurn_busy s hbusy, State.withArch_arch, complete_outBuf _ c hc, hnil, Memory.writeBytes]

end Sys2Proof.Machine
end

section
/-! PROOFS. The statements of the family 43_xor_datapath.md. -/

namespace Sys2Proof.Proofs.XorDatapath
open Sys2Proof.Machine

/-- Settles O40: the blocks are enough for the length, and the cut keeps the bytes before it. -/
theorem keystreamIsTheBlocksInOrder : Obligations.KeystreamIsTheBlocksInOrder := fun a len =>
  ⟨keystream_length a len, fun _ hn => getElem?_keystream a hn⟩

/-- Settles O41: the keystream repeats with the index byte. The cipher, a permutation, keeps different keying blocks
apart, and those of two indices from 1 to 256 differ in the index byte. -/
theorem keystreamPeriodIs256Blocks : Obligations.KeystreamPeriodIs256Blocks := by
  refine ⟨fun a i _ => keystreamBlock_add_period a i, fun a len n hn => ?_, fun a i j hi hij hj heq => ?_⟩
  · rw [getElem?_keystream a hn, getElem?_keystream a (by omega : n < len), keystreamByte_add_period]
  · have hkeying := (Aes128.cipherIsAPermutation a.key).injective heq
    obtain ⟨_, _, _, hindex⟩ := keyingBlock_fields_eq hkeying
    omega

/-- Settles O46: the engine's step writes CRYPT's result at the start of OUT, and its length is `PLEN`. -/
theorem cryptCompletesWithThePayloadXorKeystream : Obligations.CryptCompletesWithThePayloadXorKeystream :=
  fun s hbusy hc hwf => ⟨engineTurn s, rfl, engineTurn_frame hbusy hc,
    fun _ hn => engineTurn_crypt_read hbusy hc hwf hn,
    fun _ hn => engineTurn_outBuf_read_beyond hbusy hc hwf hn⟩

/-- Settles O50: both steps XOR the same keystream byte, and it cancels. -/
theorem cryptTwiceRestoresThePayload : Obligations.CryptTwiceRestoresThePayload := by
  intro s u hbusy hc hbusy' hc' hwf hwf' hkey haddr hfcnt hdir hplen hcopied n hn
  have hn' : n < u.arch.plen.toNat := by rwa [hplen]
  calc (engineTurn u).arch.outBuf.read n
      = u.arch.inBuf.read n ^^^ keystreamByte u.arch n := engineTurn_crypt_read hbusy' hc' hwf' hn'
    _ = (s.arch.inBuf.read n ^^^ keystreamByte s.arch n) ^^^ keystreamByte s.arch n := by
        rw [hcopied n hn, engineTurn_crypt_read hbusy hc hwf hn, keystreamByte_congr hkey haddr hfcnt hdir]
    _ = s.arch.inBuf.read n := by rw [BitVec.xor_assoc, BitVec.xor_self, BitVec.xor_zero]

/-- Settles O52: a command is in flight, so by the invariant the machine is busy without an error; the result has
`PLEN` bytes, which is none. -/
theorem zeroLengthPayloadYieldsNothing : Obligations.ZeroLengthPayloadYieldsNothing := by
  intro s hinv hplen hpending
  obtain ⟨c, hc, hne⟩ : ∃ c, s.arch.pending = some c ∧ c ≠ .ecb := by
    rcases hpending with h | h
    · exact ⟨.crypt, h, by decide⟩
    · exact ⟨.ksgen, h, by decide⟩
  have hbusy : s.arch.busy = true := hinv.busy_pending.mpr (by simp [hc])
  obtain ⟨_, herr, _, _⟩ := hinv.busy_quiet hbusy
  have hlen : resultLength s.arch c = 0#16 := (resultLength_of_ne_ecb s.arch hne).trans hplen
  refine ⟨by rw [hplen]; rfl, engineTurn_outBuf_of_empty_result hbusy hc hlen,
    (engineTurn_rlen hbusy hc).trans hlen, ?_, ?_⟩
  · simp [engineTurn_busy s hbusy, herr]
  · simp [engineTurn_busy s hbusy]

end Sys2Proof.Proofs.XorDatapath
end

section
/-! SUPPORT. The start of a checked long command, what its completion writes, and the steps of a busy machine up to the
engine's turn. -/

namespace Sys2Proof.Machine

/-! ## Issue -/

/-- A long command that passes its checks starts; ECB's check is the key alone (rules R264, R265, R266, R301). -/
theorem writeEffect_longCmd {cfg : Config} {a : Arch} (c : LongCmd) (hkey : a.keyCnt = 16)
    (hpayload : c ≠ .ecb → a.addrCnt = 4 ∧ a.plen.toNat ≤ cfg.bufBytes) :
    writeEffect cfg c.instr a = startLong c (beginCommand a) := by
  cases c with
  | ecb => exact issueEcb_of_key (a := beginCommand a) hkey
  | crypt => exact startChecked_of_loaded (a := beginCommand a) ⟨hkey, hpayload (by decide)⟩ .crypt
  | ksgen => exact startChecked_of_loaded (a := beginCommand a) ⟨hkey, hpayload (by decide)⟩ .ksgen

/-- While idle the issue of a long command that passes its checks is its start (rules R150, R264, R265, R266). -/
theorem exec_longCmd_starts {s : State} (c : LongCmd) (hidle : s.acceptsWrites) (hkey : s.arch.keyCnt = 16)
    (hloaded : c ≠ .ecb → s.payloadLoaded) :
    exec c.instr s = .next (s.withArch (startLong c (beginCommand s.arch))) := by
  rw [exec_write_idle hidle (by cases c <;> rfl) (by cases c <;> rfl),
    writeEffect_longCmd c hkey fun hne => (hloaded hne).2]

/-- While idle the write of a word to `CMD` has the effect of the command it decodes to (rules R174, R260). -/
theorem exec_wrCmd_idle {s : State} {c : Word} (hidle : s.acceptsWrites) (hsrst : c ≠ 0x0000000F#32) :
    exec (.wrCmd c) s = .next (s.withArch (writeEffect s.cfg (decodeCmd32 c) s.arch)) := by
  have hsoft : (Instr.wrCmd c).isSoftReset = false := beq_false_of_ne hsrst
  rw [exec_write_idle hidle rfl hsoft, writeEffect, issue_eq_writeEffect _ hsrst]

/-! ## Completion -/

/-- Every byte KSGEN writes is the keystream's (rules R241, R266). -/
theorem engineTurn_ksgen_read {s : State} (hbusy : s.arch.busy = true) (hc : s.arch.pending = some .ksgen)
    (hwf : s.arch.outBuf.wf = true) {n : Nat} (hn : n < s.arch.plen.toNat) :
    (engineTurn s).arch.outBuf.read n = keystreamByte s.arch n := by
  rw [engineTurn_outBuf_read hbusy hc hwf, resultBytes, List.getD_eq_getElem?_getD, getElem?_keystream _ hn,
    Option.getD_some]

/-- ECB's block is the first sixteen bytes of IN (rule R265). -/
theorem ecbInput_eq {a : Arch} {x : Block} (h : ∀ (j : Nat) (hj : j < 16), x[j] = a.inBuf.read j) :
    ecbInput a = x := by
  refine Vector.ext fun j hj => ?_
  rw [h j hj]
  interval_cases j <;> rfl

/-- Every byte ECB writes is the encrypted block's (rule R265). -/
theorem engineTurn_ecb_read {s : State} (hbusy : s.arch.busy = true) (hc : s.arch.pending = some .ecb)
    (hwf : s.arch.outBuf.wf = true) {n : Nat} (hn : n < 16) :
    (engineTurn s).arch.outBuf.read n = (aes128Enc s.arch.key (ecbInput s.arch))[n] := by
  rw [engineTurn_outBuf_read hbusy hc hwf, resultBytes, List.getD_eq_getElem _ _ (by simpa using hn),
    Vector.getElem_toList]

/-! ## Steps of a busy machine -/

/-- The state with another `ACCERR` and another record of reads: all that transactions other than a soft reset can change
while a command is in flight. -/
def State.withDiscards (s : State) (accerr : Bool) (reads : List Word) : State :=
  { s with arch := { s.arch with accerr := accerr }, port := { s.port with reads := reads } }

/-- While busy a read is answered and a write other than a soft reset is discarded (rules R150, R340). -/
theorem exec_while_busy {i : Instr} {s : State} (hopen : s.port.rst = false) (hbusy : s.arch.busy = true)
    (hsoft : i.isSoftReset = false) : ∃ accerr reads, exec i s = .next (s.withDiscards accerr reads) := by
  cases hread : i.isRead with
  | true =>
    obtain ⟨word, hexec⟩ := exec_read i hread
    exact ⟨s.arch.accerr, _, exec_answers hopen (hexec s)⟩
  | false => exact ⟨true, s.port.reads, exec_write_busy hopen hbusy hread hsoft⟩

/-- A well-formed instruction at the head of the queue is executed (rules R90, R122). -/
theorem step_transaction {s : State} {i : Instr} {rest : List Input} (hwf : i.wellFormed = true)
    (hinputs : s.port.inputs = .host (encode i) :: rest) : step s = exec i (popInput s rest) := by
  rw [step, takeTurn, hinputs]
  exact congrArg (exec · _) (Proofs.Encoding.decodeInvertsEncode i hwf)

/-- A turn of the engine at the head of the queue is taken (rules R6, R261). -/
theorem step_engine {s : State} {rest : List Input} (hinputs : s.port.inputs = .engine :: rest) :
    step s = .next (engineTurn (popInput s rest)) := by
  rw [step, takeTurn, hinputs]
  rfl

/-- A run over transactions of a busy machine, none a soft reset, comes to the inputs behind them with the command still
in flight and its operands as they were (rules R262, R340). -/
theorem core_run_while_busy : ∀ (ws : List Instr) {s : State} {rest : List Input}, s.port.rst = false →
    s.arch.busy = true → (∀ w ∈ ws, w.wellFormed = true ∧ w.isSoftReset = false) →
    s.port.inputs = asInputs ws ++ rest →
    ∃ accerr reads, ∀ k, core.run (ws.length + k) s = core.run k ((popInput s rest).withDiscards accerr reads)
  | [], s, rest, _, _, _, hinputs => by
    obtain rfl : s.port.inputs = rest := hinputs
    exact ⟨s.arch.accerr, s.port.reads, fun k => congrArg (core.run · s) (Nat.zero_add k)⟩
  | w :: ws, s, rest, hopen, hbusy, hws, hinputs => by
    obtain ⟨⟨hwf, hsoft⟩, hws⟩ := List.forall_mem_cons.mp hws
    obtain ⟨accerr, reads, hexec⟩ := exec_while_busy (s := popInput s (asInputs ws ++ rest)) hopen hbusy hsoft
    obtain ⟨accerr', reads', hrun⟩ := core_run_while_busy ws
      (s := (popInput s (asInputs ws ++ rest)).withDiscards accerr reads) hopen hbusy hws rfl
    refine ⟨accerr', reads', fun k => ?_⟩
    rw [List.length_cons, Nat.succ_add, core_run_succ ((step_transaction hwf hinputs).trans hexec), hrun]
    rfl

/-- The state that waits for the engine's turn, `ins` still to come after it: `c` issued in `s`, and `ACCERR` and the
record of reads as the transactions since then left them. -/
def State.issued (s : State) (c : LongCmd) (ins : List Input) (accerr : Bool) (reads : List Word) : State :=
  ((popInput s ins).withArch (startLong c (beginCommand s.arch))).withDiscards accerr reads

/-- A long command issued, any transactions but a soft reset, and the engine's turn: the engine completes the command as
it was issued (rules R262, R264, R340). -/
theorem core_run_longCmd {s : State} (c : LongCmd) {ws : List Instr} {ins : List Input} (hidle : s.acceptsWrites)
    (hkey : s.arch.keyCnt = 16) (hloaded : c ≠ .ecb → s.payloadLoaded)
    (hws : ∀ w ∈ ws, w.wellFormed = true ∧ w.isSoftReset = false)
    (hinputs : s.port.inputs = asInputs (c.instr :: ws) ++ .engine :: ins) :
    ∃ accerr reads, core.run (ws.length + 2) s = .next (engineTurn (s.issued c ins accerr reads)) := by
  have hissue := (step_transaction (by cases c <;> rfl) hinputs).trans
    (exec_longCmd_starts (s := popInput s (asInputs ws ++ .engine :: ins)) c hidle hkey hloaded)
  obtain ⟨accerr, reads, hrun⟩ := core_run_while_busy ws
    (s := (popInput s (asInputs ws ++ .engine :: ins)).withArch (startLong c (beginCommand s.arch)))
    hidle.1 rfl hws rfl
  exact ⟨accerr, reads, calc core.run (ws.length + 1 + 1) s
    _ = core.run (ws.length + 1) _ := core_run_succ hissue _
    _ = core.run 1 (s.issued c (.engine :: ins) accerr reads) := hrun 1
    _ = .next (engineTurn (s.issued c ins accerr reads)) := core_run_succ (step_engine rfl) 0⟩

end Sys2Proof.Machine
end

section
/-! PROOFS. The statements of the family 44_commands.md. -/

namespace Sys2Proof.Proofs.Commands
open Sys2Proof.Machine

/-- Settles O32: idle, NOP is a write whose effect is none, in both forms; busy, it is a write like every other. -/
theorem nopChangesNothing : Obligations.NopChangesNothing :=
  ⟨fun _ hidle => ⟨exec_write_idle hidle rfl rfl, exec_wrCmd_idle hidle (by decide)⟩,
    fun _ hopen hbusy => exec_write_busy hopen hbusy rfl rfl⟩

/-- Settles O33: the effect of each of the two writes is its clear after the start of a command. -/
theorem clearCommandsZeroTheirOperand : Obligations.ClearCommandsZeroTheirOperand :=
  fun _ hidle => ⟨exec_write_idle hidle rfl rfl, exec_write_idle hidle rfl rfl⟩

/-- Settles O35: each of the three passes its checks, and so starts. -/
theorem checkedLongCommandsStart : Obligations.CheckedLongCommandsStart := fun _ hidle hkey =>
  ⟨exec_longCmd_starts .ecb hidle hkey fun h => absurd rfl h, fun hloaded =>
    ⟨exec_longCmd_starts .crypt hidle hkey fun _ => hloaded, exec_longCmd_starts .ksgen hidle hkey fun _ => hloaded⟩⟩

/-- Settles O12: both forms are the soft reset, which does not look at `BUSY`; every other write while busy is
discarded. -/
theorem softResetTakesEffectEvenWhileBusy : Obligations.SoftResetTakesEffectEvenWhileBusy := by
  intro s hopen
  have hreset (i : Instr) (hsoft : i.isSoftReset = true) : exec i s = .next (s.withArch State.reset.arch) := by
    rw [exec_softReset i s hsoft, hostSoftReset_open s hopen, State.reset]
  exact ⟨hreset _ rfl, hreset _ rfl, rfl, fun _ hbusy hwrite hsoft => exec_write_busy hopen hbusy hwrite hsoft⟩

/-- Settles O34: a word that is not listed decodes to the illegal command, whose effect is the error after the start of a
command; the SRST word is listed. -/
theorem illegalWordsFailWithCodeOne : Obligations.IllegalWordsFailWithCodeOne := by
  intro s c hidle hc
  have hsrst : c ≠ 0x0000000F#32 := by
    rintro rfl
    exact hc (by decide)
  have hword := exec_wrCmd_idle hidle hsrst
  rw [Laws.decodeCmd32_of_not_mem hc] at hword
  exact ⟨exec_write_idle hidle rfl rfl, hword, rfl⟩

/-- Settles O47: the engine's step writes the keystream at the start of OUT, and its length is `PLEN`. -/
theorem ksgenCompletesWithTheKeystream : Obligations.KsgenCompletesWithTheKeystream :=
  fun s hbusy hc hwf => ⟨engineTurn s, rfl, engineTurn_frame hbusy hc,
    fun _ hn => engineTurn_ksgen_read hbusy hc hwf hn,
    fun _ hn => engineTurn_outBuf_read_beyond hbusy hc hwf hn⟩

/-- Settles O48: the given block is the one ECB reads; the engine's step writes its encryption at the start of OUT. -/
theorem ecbCompletesWithOneBlock : Obligations.EcbCompletesWithOneBlock := by
  intro s x hbusy hc hwf hx
  refine ⟨engineTurn s, rfl, engineTurn_frame hbusy hc, fun n hn => ?_,
    fun _ hn => engineTurn_outBuf_read_beyond hbusy hc hwf hn⟩
  rw [engineTurn_ecb_read hbusy hc hwf hn, ecbInput_eq hx]

/-- Settles O49: the issue starts CRYPT and changes no operand, the transactions in between change `ACCERR` and the
record of reads at most, and the engine's turn completes CRYPT on the operands of the issue. -/
theorem cryptResultDependsOnTheOperandsAtIssue : Obligations.CryptResultDependsOnTheOperandsAtIssue := by
  intro s ws ins hidle hloaded hwf hws hinputs
  obtain ⟨accerr, reads, hrun⟩ := core_run_longCmd .crypt hidle hloaded.1 (fun _ => hloaded) hws hinputs
  obtain ⟨t, hturn, hframe, hpayload, hbeyond⟩ :=
    XorDatapath.cryptCompletesWithThePayloadXorKeystream (s.issued .crypt ins accerr reads) rfl rfl hwf
  rw [hturn] at hrun
  refine ⟨t, hrun, ?_, ?_, ?_, ?_, ?_, hpayload, hbeyond⟩
  all_goals
    rw [hframe]
    rfl

end Sys2Proof.Proofs.Commands
end

section
/-! SUPPORT. The code of the first check that a long command fails, and what its issue then does. -/

namespace Sys2Proof.Machine

/-! ## The first failing check -/

/-- Every long command checks the key first (rule R301). -/
theorem payloadCheck_of_key {cfg : Config} {a : Arch} (hkey : a.keyCnt ≠ 16) :
    payloadCheck cfg a = some .invalidKeyLength := if_pos hkey

theorem keyCheck_of_key {a : Arch} (hkey : a.keyCnt ≠ 16) : keyCheck a = some .invalidKeyLength := if_pos hkey

theorem payloadCheck_of_address {cfg : Config} {a : Arch} (hkey : a.keyCnt = 16) (haddr : a.addrCnt ≠ 4) :
    payloadCheck cfg a = some .invalidAddressLength := by
  rw [payloadCheck, if_neg (not_not_intro hkey), if_pos haddr]

theorem payloadCheck_of_length {cfg : Config} {a : Arch} (hkey : a.keyCnt = 16) (haddr : a.addrCnt = 4)
    (hlen : cfg.bufBytes < a.plen.toNat) : payloadCheck cfg a = some .invalidPayloadLength := by
  rw [payloadCheck, if_neg (not_not_intro hkey), if_neg (not_not_intro haddr), if_pos hlen]

/-! ## Issue of a command that fails -/

/-- The checks of a long command: ECB's is the key alone (rule R301). -/
def longCheck (cfg : Config) (a : Arch) : LongCmd → Option ErrCode
  | .ecb => keyCheck a
  | .crypt | .ksgen => payloadCheck cfg a

/-- The issue of a long command clears the flags and then makes its checks, which `beginCommand` does not affect
(rules R260, R264, R265, R266). -/
theorem writeEffect_longCmd_eq (cfg : Config) (a : Arch) (c : LongCmd) :
    writeEffect cfg c.instr a = startChecked (longCheck cfg a c) c (beginCommand a) := by
  cases c <;> rfl

theorem longCheck_of_key {cfg : Config} {a : Arch} (hkey : a.keyCnt ≠ 16) (c : LongCmd) :
    longCheck cfg a c = some .invalidKeyLength := by
  cases c with
  | ecb => exact keyCheck_of_key hkey
  | crypt | ksgen => exact payloadCheck_of_key hkey

theorem longCheck_of_ne_ecb {cfg : Config} {a : Arch} {c : LongCmd} (hc : c ≠ .ecb) :
    longCheck cfg a c = payloadCheck cfg a := by
  cases c with
  | ecb => contradiction
  | crypt | ksgen => rfl

/-- While idle a long command that fails a check ends at once with the code of that check (rules R150, R302). -/
theorem exec_longCmd_fails {s : State} {c : LongCmd} {code : ErrCode} (hidle : s.acceptsWrites)
    (hfail : longCheck s.cfg s.arch c = some code) :
    exec c.instr s = .next (s.withArch { s.arch with
      rlen := 0#16, done := true, err := true, errcode := code }) := by
  rw [exec_write_idle hidle (by cases c <;> rfl) (by cases c <;> rfl), writeEffect_longCmd_eq, hfail]
  rfl

/-- CRYPT, KSGEN and ECB are the instructions of the long commands. -/
theorem exists_longCmd_instr {i : Instr} (h : i = .crypt ∨ i = .ksgen ∨ i = .ecb) : ∃ c : LongCmd, i = c.instr := by
  rcases h with rfl | rfl | rfl
  · exact ⟨.crypt, rfl⟩
  · exact ⟨.ksgen, rfl⟩
  · exact ⟨.ecb, rfl⟩

end Sys2Proof.Machine
end

section
/-! PROOFS. The statements of the family 60_exceptions.md. -/

namespace Sys2Proof.Proofs.Exceptions
open Sys2Proof.Machine

/-- Settles O30: every write but the soft reset asks `BUSY` before it has an effect. -/
theorem writesWhileBusyOnlySetAccerr : Obligations.WritesWhileBusyOnlySetAccerr :=
  fun _ _ hopen hbusy hwrite hsoft => exec_write_busy hopen hbusy hwrite hsoft

/-- Settles O36: an illegal word fails before any check, as O34 says; a long command fails with the code of its first
failing check, which for CRYPT and KSGEN is `payloadCheck`'s. -/
theorem firstFailedCheckGivesTheCode : Obligations.FirstFailedCheckGivesTheCode := by
  refine ⟨fun s c hidle hc => ?_, rfl, rfl, rfl, rfl, fun s i hidle hi => ?_⟩
  · obtain ⟨_, hword, _⟩ := Commands.illegalWordsFailWithCodeOne s c hidle hc
    exact hword
  · obtain ⟨c, rfl⟩ := exists_longCmd_instr hi
    refine ⟨fun hkey => exec_longCmd_fails hidle (longCheck_of_key hkey c), fun hkey hne => ?_⟩
    have hc : longCheck s.cfg s.arch c = payloadCheck s.cfg s.arch := longCheck_of_ne_ecb fun h => hne (congrArg _ h)
    exact ⟨fun haddr => exec_longCmd_fails hidle (hc.trans (payloadCheck_of_address hkey haddr)),
      fun haddr hlen => exec_longCmd_fails hidle (hc.trans (payloadCheck_of_length hkey haddr hlen))⟩

end Sys2Proof.Proofs.Exceptions
end

section
/-! SUPPORT. The reset values of the buffers and of `irq`, and the step that asserts the reset input. -/

namespace Sys2Proof.Machine

/-- An empty buffer reads 0 at every address (rules R14, R330). -/
theorem Memory.read_nil (n : Nat) : Memory.read [] n = 0x00#8 := rfl

/-- With the architectural state at its reset values `irq` is low, whatever the port holds (rules R57, R330). -/
theorem State.irq_of_arch_eq_reset {s : State} (h : s.arch = Arch.reset) : s.irq = false := by
  rw [State.irq, h]
  rfl

/-- A step whose next input asserts the reset input runs `Reset()` (rules R330, R332). -/
theorem step_assertReset {s : State} {rest : List Input} (hinputs : s.port.inputs = .rst true :: rest) :
    step s = .next (assertReset (popInput s rest)) := by
  rw [step, takeTurn, hinputs]
  rfl

/-- SRST resets the architectural state alone, busy or idle (rules R269, R333). -/
theorem exec_srst_open {s : State} (hopen : s.port.rst = false) :
    exec .srst s = .next (s.withArch Arch.reset) := by
  rw [exec_softReset _ s rfl, hostSoftReset_open s hopen]

end Sys2Proof.Machine
end

section
/-! PROOFS. The statements of the family 70_reset_and_hazards.md. -/

namespace Sys2Proof.Proofs.ResetAndHazards
open Sys2Proof.Machine

/-- Settles O11: the elements of `Arch.reset` are the reset values, and both reset events leave `Arch.reset` in the one
step they take. -/
theorem resetSetsEveryElement : Obligations.ResetSetsEveryElement := by
  have hkey (j : Nat) (h : j < 16) : State.reset.arch.key[j] = 0x00#8 := Vector.getElem_replicate h
  have haddr (j : Nat) (h : j < 4) : State.reset.arch.addr[j] = 0x00#8 := Vector.getElem_replicate h
  have hstatus : statusWord State.reset.arch = 0x00000000#32 := by decide
  refine ⟨hkey, rfl, haddr, rfl, rfl, rfl, rfl, rfl, rfl, rfl, rfl, rfl, rfl, rfl, hstatus, rfl,
    fun n => ⟨Memory.read_nil n, Memory.read_nil n⟩, State.irq_of_arch_eq_reset rfl, ?rstInput, ?softReset⟩
  case rstInput =>
    intro s rest hinputs
    exact ⟨_, step_assertReset hinputs, assertReset_arch _, assertReset_cfg _,
      State.irq_of_arch_eq_reset (assertReset_arch _)⟩
  case softReset =>
    intro s hopen
    exact ⟨_, exec_srst_open hopen, State.withArch_arch _ _, State.withArch_cfg _ _,
      State.irq_of_arch_eq_reset (State.withArch_arch _ _)⟩

end Sys2Proof.Proofs.ResetAndHazards
end

section
/-! SUPPORT. One step by the input it takes, a host access by the bytes it covers, and the reads of a `WAIT`. -/

namespace Sys2Proof.Machine

/-! ## Every transaction completes -/

/-- A read returns one word and changes nothing else, held in reset or not (rules R91, R150, R332). -/
theorem exec_isRead {i : Instr} (hread : i.isRead = true) (s : State) : ∃ d, exec i s = .next (s.answered d) := by
  obtain ⟨word, hexec⟩ := exec_read i hread
  exact ⟨_, (hexec s).trans (congrArg _ (hostRead_eq ..))⟩

/-- A write, a soft reset among them, leaves the port as it is (rules R80, R93). -/
theorem exec_not_isRead {i : Instr} (hwrite : i.isRead = false) (s : State) :
    ∃ t, exec i s = .next t ∧ t.port = s.port := by
  cases hsoft : i.isSoftReset with
  | true => exact ⟨_, exec_softReset i s hsoft, hostSoftReset_port s⟩
  | false => exact ⟨_, exec_write i s hwrite hsoft, hostWrite_port s _⟩

theorem exec_completes (i : Instr) (s : State) : ∃ t, exec i s = .next t := by
  cases hread : i.isRead with
  | true =>
    obtain ⟨d, hexec⟩ := exec_isRead hread s
    exact ⟨_, hexec⟩
  | false =>
    obtain ⟨t, hexec, -⟩ := exec_not_isRead hread s
    exact ⟨t, hexec⟩

/-- While the reset input is asserted a read returns 0 and a write is discarded (rule R332). -/
theorem exec_held {s : State} (hheld : s.port.rst = true) (i : Instr) :
    exec i s = .next (if i.isRead then s.answered 0x00000000#32 else s) := by
  cases hread : i.isRead with
  | true =>
    obtain ⟨word, hexec⟩ := exec_read i hread
    rw [hexec, hostRead_eq, if_pos hheld, if_pos rfl]
  | false =>
    cases hsoft : i.isSoftReset with
    | true =>
      rw [exec_softReset i s hsoft, hostSoftReset_held s hheld]
      rfl
    | false =>
      rw [exec_write i s hread hsoft, hostWrite_held s _ hheld]
      rfl

/-! ## The step by its input -/

/-- A step takes the oldest input out of the queue (rules R6, R94). -/
theorem step_of_inputs {s : State} {i : Input} {rest : List Input} (hinputs : s.port.inputs = i :: rest) :
    step s = inputTurn i (popInput s rest) := by
  rw [step, takeTurn, hinputs]

/-- With no input left the engine takes its turn (rule R348). -/
theorem step_of_no_inputs {s : State} (hinputs : s.port.inputs = []) : step s = .next (engineTurn s) := by
  rw [step, takeTurn, hinputs]

/-- An access that shares no byte with the range makes no transaction (rule R81). -/
theorem accessTurn_outside {a : HostAccess} (hreach : a.reachesPort = false) (s : State) :
    accessTurn a s = .next s := by
  rw [accessTurn, hreach]
  rfl

/-- One aligned word of the range is its transaction (rule R81). -/
theorem accessTurn_portWord {a : HostAccess} (hreach : a.reachesPort = true) (hword : a.isPortWord = true) (s : State) :
    accessTurn a s = exec (decode a.transaction) s := by
  rw [accessTurn, hreach, hword]
  rfl

/-- Every other access to the range is refused (rule R89). -/
theorem accessTurn_nonWord {a : HostAccess} (hreach : a.reachesPort = true) (hword : a.isPortWord = false) (s : State) :
    accessTurn a s = .refused .nonWordAccess := by
  rw [accessTurn, hreach, hword]
  rfl

/-- An input is taken, unless it is an access to the range that is not one aligned word (rule R89). -/
theorem inputTurn_completes_or_refuses (i : Input) (s : State) : (∃ t, inputTurn i s = .next t) ∨
    (inputTurn i s = .refused .nonWordAccess ∧ ∃ a, i = .access a ∧ a.reachesPort = true ∧ a.isPortWord = false) := by
  cases i with
  | host e => exact .inl (exec_completes _ s)
  | engine => exact .inl ⟨_, rfl⟩
  | rst level => cases level <;> exact .inl ⟨_, rfl⟩
  | access a =>
    cases hreach : a.reachesPort with
    | false => exact .inl ⟨s, accessTurn_outside hreach s⟩
    | true =>
      cases hword : a.isPortWord with
      | false => exact .inr ⟨accessTurn_nonWord hreach hword s, a, rfl, hreach, hword⟩
      | true =>
        obtain ⟨t, hexec⟩ := exec_completes (decode a.transaction) s
        exact .inl ⟨t, (accessTurn_portWord hreach hword s).trans hexec⟩

/-! ## Host accesses by their bytes -/

theorem HostAccess.reachesPort_iff (we : Bool) (addr size : Nat) (d : Word) :
    HostAccess.reachesPort ⟨we, addr, size, d⟩ = true ↔
      0 < size ∧ addr < Config.base + 0x20000 ∧ Config.base < addr + size := by
  simp [HostAccess.reachesPort, and_assoc]

theorem HostAccess.isPortWord_iff (we : Bool) (addr size : Nat) (d : Word) :
    HostAccess.isPortWord ⟨we, addr, size, d⟩ = true ↔
      size = 4 ∧ Config.base ≤ addr ∧ (addr - Config.base) % 4 = 0 := by
  simp [HostAccess.isPortWord, and_assoc]

/-- The word access at `BASE + 4w` (rule R81). -/
def HostAccess.atWord (we : Bool) (w : BitVec 15) (d : Word) : HostAccess := ⟨we, Config.base + 4 * w.toNat, 4, d⟩

theorem HostAccess.reachesPort_atWord (we : Bool) (w : BitVec 15) (d : Word) : (atWord we w d).reachesPort = true := by
  have hw := w.isLt
  rw [atWord, reachesPort_iff]
  omega

theorem HostAccess.isPortWord_atWord (we : Bool) (w : BitVec 15) (d : Word) : (atWord we w d).isPortWord = true := by
  rw [atWord, isPortWord_iff]
  omega

/-- Its transaction has the word index `w` (rules R81, R122). -/
theorem HostAccess.decode_transaction_atWord (we : Bool) (w : BitVec 15) (d : Word) :
    decode (atWord we w d).transaction = if we then decodeWrite w d else decodeRead w := by
  have hindex : BitVec.ofNat 15 ((Config.base + 4 * w.toNat - Config.base) / 4) = w := by
    rw [Nat.add_sub_cancel_left, Nat.mul_div_cancel_left _ (by decide), BitVec.ofNat_toNat, BitVec.setWidth_eq]
  simp only [transaction, atWord, hindex]
  cases we with
  | true => exact Laws.decode_busWord true w d
  | false => exact Laws.decode_busWord false w 0#32

/-! ## Words placed as the next input -/

/-- An opcode-table word that decodes is a word of one of the two formats (rule R120). -/
theorem encodedOfBits_of_decodeTableWord {nbits w : Nat} {i : Instr} (h : decodeTableWord nbits w = some i) :
    ∃ e, encodedOfBits nbits w = .ok e ∧ decode e = i := by
  cases henc : encodedOfBits nbits w with
  | error r => simp [Laws.decodeTableWord_of_error henc] at h
  | ok e => exact ⟨e, rfl, Option.some.inj ((Laws.decodeTableWord_of_word henc).symm.trans h)⟩

theorem State.withFetchWord_of_word {nbits w : Nat} {e : Encoded} (h : encodedOfBits nbits w = .ok e) (s : State) :
    s.withFetchWord nbits w = pushInput s (.host e) := by
  rw [State.withFetchWord, h]

/-! ## The reads of a `WAIT` -/

theorem wellFormed_of_isRead {i : Instr} (h : i.isRead = true) : i.wellFormed = true := by
  cases i with
  | illegal c => cases h
  | _ => rfl

/-- A run over reads comes to the inputs behind them with one word recorded per read and the architectural state as it
was (rules R91, R150). -/
theorem core_run_reads : ∀ (rs : List Instr) {s : State} {rest : List Input}, (∀ r ∈ rs, r.isRead = true) →
    s.port.inputs = asInputs rs ++ rest → ∃ u : State, u.arch = s.arch ∧ u.port.inputs = rest ∧
      u.port.reads.length = s.port.reads.length + rs.length ∧ ∀ k, core.run (rs.length + k) s = core.run k u
  | [], s, _, _, hinputs => ⟨s, rfl, hinputs, rfl, fun k => congrArg (core.run · s) (Nat.zero_add k)⟩
  | r :: rs, s, rest, hreads, hinputs => by
    obtain ⟨hread, hreads⟩ := List.forall_mem_cons.mp hreads
    obtain ⟨d, hexec⟩ := exec_isRead hread (popInput s (asInputs rs ++ rest))
    have hstep := (step_transaction (wellFormed_of_isRead hread) hinputs).trans hexec
    obtain ⟨u, harch, hrest, hlength, hrun⟩ :=
      core_run_reads rs (s := (popInput s (asInputs rs ++ rest)).answered d) hreads rfl
    refine ⟨u, harch, hrest, ?_, fun k => ?_⟩
    · rw [hlength, State.answered_reads, popInput_reads, List.length_append, List.length_singleton, List.length_cons]
      omega
    · rw [List.length_cons, Nat.succ_add, core_run_succ hstep, hrun]

/-- The engine's turn ends the command in flight, and the run with it where no transaction is left to come (rules R261,
R349). -/
theorem engineTurn_ends {s : State} (hbusy : s.arch.busy = true) :
    (engineTurn s).arch.busy = false ∧ (engineTurn s).arch.done = true ∧ (engineTurn s).arch.pending = none ∧
      ((∀ i ∈ s.port.inputs, i.awaitsPort = false) → (engineTurn s).runOver = true) := by
  simp [engineTurn_busy s hbusy, State.runOver_iff]

end Sys2Proof.Machine
end

section
/-! PROOFS. The statements about the step and its inputs: transactions, host accesses, the reset input and the engine's
turns. -/

namespace Sys2Proof.Proofs.Steps
open Sys2Proof.Machine

/-- Settles O7: a read adds its word to the record and a write leaves the whole port. -/
theorem everyTransactionCompletes : Obligations.EveryTransactionCompletes := by
  intro i s
  obtain ⟨t, hexec⟩ := exec_completes i s
  obtain ⟨hcfg, hinputs, hrst, -⟩ := exec_cases i hexec
  refine ⟨t, hexec, hcfg, hinputs, hrst, fun hread => ?_, fun hwrite => ?_⟩
  · obtain ⟨d, hanswer⟩ := exec_isRead hread s
    cases hexec.symm.trans hanswer
    exact ⟨d, rfl⟩
  · obtain ⟨t', hexec', hport⟩ := exec_not_isRead hwrite s
    cases hexec.symm.trans hexec'
    rw [hport]

/-- Settles O8: the engine's turn always answers, and of the inputs only such an access is refused. -/
theorem onlyNonWordAccessesStop : Obligations.OnlyNonWordAccessesStop := by
  intro s
  cases hinputs : s.port.inputs with
  | nil => exact .inl ⟨_, step_of_no_inputs hinputs⟩
  | cons i rest =>
    rw [step_of_inputs hinputs]
    refine (inputTurn_completes_or_refuses i (popInput s rest)).imp_right fun ⟨hrefused, a, hi, haccess⟩ => ?_
    exact ⟨hrefused, a, rest, by rw [hi], haccess⟩

/-- Settles O9: the bytes an access covers decide whether it reaches the port and whether it is one word of it. -/
theorem hostAccessesReachThePortAsWords : Obligations.HostAccessesReachThePortAsWords := by
  refine ⟨fun s rest w we d hinputs => ?_, fun s rest addr size we d hinputs => ?_⟩
  · rw [step_of_inputs hinputs, ← HostAccess.decode_transaction_atWord]
    exact accessTurn_portWord (HostAccess.reachesPort_atWord we w d) (HostAccess.isPortWord_atWord we w d) _
  · rw [step_of_inputs hinputs]
    refine ⟨fun hsize hbelow habove hnot => accessTurn_nonWord ?_ ?_ _, fun hout => accessTurn_outside ?_ _⟩
    · exact (HostAccess.reachesPort_iff ..).mpr ⟨hsize, hbelow, habove⟩
    · rw [Bool.eq_false_iff, Ne, HostAccess.isPortWord_iff]
      omega
    · rw [Bool.eq_false_iff, Ne, HostAccess.reachesPort_iff]
      omega

/-- Settles O10: none of the things a step can be touches the parameter. -/
theorem parameterNeverChanges : Obligations.ParameterNeverChanges := fun _ _ hstep => step_cfg hstep

/-- Settles O13: each level of the input is one step, and a transaction looks at the level before all else. -/
theorem resetInputHoldsTheMachine : Obligations.ResetInputHoldsTheMachine :=
  ⟨fun _ _ hinputs => step_of_inputs hinputs, fun _ _ hinputs => step_of_inputs hinputs,
    fun i _ hheld => exec_held hheld i⟩

/-- Settles O59: the reads leave the command in flight, and the engine's turn behind them ends it. -/
theorem waitEndsOnceTheEngineIsScheduled : Obligations.WaitEndsOnceTheEngineIsScheduled := by
  refine ⟨fun s rs rest hbusy hreads hinputs => ?_, fun s hbusy hinputs => ?_⟩
  · obtain ⟨u, harch, hrest, hlength, hrun⟩ := core_run_reads rs hreads hinputs
    obtain ⟨hidle, hdone, -, hover⟩ := engineTurn_ends (s := popInput u rest) (harch ▸ hbusy)
    refine ⟨engineTurn (popInput u rest), ?_, hidle, hdone, by simp, by simpa using hlength, hover⟩
    rw [hrun, core_run_succ (step_engine hrest), core_run_zero]
  · obtain ⟨hidle, hdone, -, hover⟩ := engineTurn_ends hbusy
    exact ⟨_, step_of_no_inputs hinputs, hidle, hdone, hover (by simp [hinputs])⟩

/-- Settles O6: the step takes the transaction out of the queue and decodes it; a word placed is the oldest input. -/
theorem stepRunsTheDecodedTransaction : Obligations.StepRunsTheDecodedTransaction := by
  refine ⟨fun s e rest hinputs => step_of_inputs hinputs, fun s nbits w i hdecode => ?_⟩
  obtain ⟨e, hword, rfl⟩ := encodedOfBits_of_decodeTableWord hdecode
  rw [State.withFetchWord_of_word hword, step_of_inputs (pushInput_inputs s (.host e)), popInput_pushInput]
  rfl

/-- Settles O45: the engine asks `BUSY` before its step, and that step looks at nothing of the port. -/
theorem engineStepsOnlyWhileBusy : Obligations.EngineStepsOnlyWhileBusy := by
  intro s rest hinputs
  refine ⟨fun hidle => ?_, fun hbusy => ⟨_, step_engine hinputs, ?_⟩⟩
  · rw [step_engine hinputs, engineTurn_idle (popInput s rest) hidle]
    rfl
  · obtain ⟨hidle, hdone, hpending, -⟩ := engineTurn_ends (s := popInput s rest) hbusy
    refine ⟨hidle, hdone, hpending, engineTurn_port _, engineTurn_cfg _, ?_⟩
    rw [engineTurn_busy (popInput s rest) hbusy, engineTurn_busy s hbusy]
    rfl

end Sys2Proof.Proofs.Steps
end
